-- ==== Sys2Proof/Word.lean ====
section
/-! DEFINITION. The widths of the block: bytes, 16-bit words, 17-bit byte counters and the 3-bit error code
(spec/00_scope.md R12, spec/10_state.md R20). All quantities are unsigned. -/

namespace Sys2Proof

/-- `u8` (R12): one byte of a buffer, a stream, or an opcode register. -/
abbrev Byte := BitVec 8

/-- `u16` (R12): `CRC`, a table entry, the length registers and views. -/
abbrev Word := BitVec 16

/-- 17 bits: `TX_IDX` and `RX_N`, which count bytes up to 65542 (R24, R27). -/
abbrev Index := BitVec 17

/-- 3 bits: the flag field `ERR` (R31). -/
abbrev ErrCode := BitVec 3

end Sys2Proof
end

