-- ==== Sys2Proof/Config.lean ====
section
/-! DEFINITION. The parameters of the block: those the source fixes (spec/00_scope.md R7), those the spec fixes
(R8), and the open ones (R9), which are opaque constants: nothing in Lean can evaluate them. `SYNC_CHECK` and
`LEN_CHECK` are off (R8, D5, D6), so no definition tests them. -/

namespace Sys2Proof

/-- `POLY` (R7): the generator polynomial, the x^16 term implied. -/
@[simp] def Config.poly : Word := 0x1021#16

/-- `SEED_INIT` (R7): the seed every whole-buffer computation starts from. -/
@[simp] def Config.seedInit : Word := 0xFFFF#16

/-- High byte of `SYNC` = 0xABCD (R7). -/
@[simp] def Config.syncHi : Byte := 0xAB#8

/-- Low byte of `SYNC` = 0xABCD (R7). -/
@[simp] def Config.syncLo : Byte := 0xCD#8

/-- `HDR_BYTES` (R7): sync, opcode, length; the body starts at this offset. -/
@[simp] def Config.hdrBytes : Nat := 5

/-- `MIN_FRAME` (R7): the smallest frame. -/
@[simp] def Config.minFrame : Nat := 7

/-- `SPI_MAX` (R7): the longest SPI_TRANSFER payload. -/
@[simp] def Config.spiMax : Nat := 1024

/-- `PAYLOAD_MAX` (R8, D11). -/
@[simp] def Config.payloadMax : Nat := 65535

/-- `RX_MAX` (R8, D12). -/
@[simp] def Config.rxMax : Nat := 65542

/-- `OP_VERSION` (R7, R98). -/
@[simp] def Config.opVersion : Byte := 0x00#8

/-- `OP_SPI_TRANSFER` (R7, R98). -/
@[simp] def Config.opSpiTransfer : Byte := 0x01#8

/-- `OP_LED` (R7, R98). -/
@[simp] def Config.opLed : Byte := 0x02#8

/-- `OP_READ_GPIO` (R7, R98). -/
@[simp] def Config.opReadGpio : Byte := 0x03#8

/-- Size of the VERSION response (R191, R196). -/
@[simp] def Config.versionResponse : Nat := 24

/-- Size of the READ_GPIO response (R194, R196). -/
@[simp] def Config.gpioResponse : Nat := 9

/-- `VERSION_LAYOUT` (R9, D24, U13), open: the string `read_version` makes of the raw response buffer. Log 7. -/
opaque Config.versionText : List Byte → String

/-- Open (90_conflicts.md C10): whether `spi_transfer` hands its caller the whole body, rather than the slice by
the length field, when the response's length field disagrees with its size. Log 8. -/
opaque Config.spiReturnsBody : Bool

/-- `T_TIMEOUT` (R9, D23), open; no rule reads it (R296). Log 6. -/
opaque Config.tTimeout : Nat

/-- `T_SETTLE` (R9, D23), open; no rule reads it (R296). Log 6. -/
opaque Config.tSettle : Nat

/-- `BAUD` (R9, D23), open; no rule reads it (R296). Log 6. -/
opaque Config.baud : Nat

end Sys2Proof
end

