-- ==== Sys2Proof/Syntax.lean ====
section
/-! DEFINITION. The instructions: one constructor per row of spec/opcode_table.json (eleven operations of the block,
R103; four frames, R98; four pseudo rows, R107), the operation codes as names, what the host asks of the machine, and
the reasons a request is no instruction. -/

namespace Sys2Proof

/-- An instruction: an operation the host asks of the block (R103), or a frame, which the host runs as one
transaction (R190, R227), or a pseudo row (R107). -/
inductive Instr where
  /-- `VERSION` (R191): the transaction of opcode 0x00, empty payload. -/
  | version
  /-- `SPI_TRANSFER` (R192): the transaction of opcode 0x01 with this payload. -/
  | spiTransfer (payload : List Byte)
  /-- `LED` (R193): the transaction of opcode 0x02 with this payload, 0x01 for on and 0x00 for off. -/
  | led (payload : List Byte)
  /-- `READ_GPIO` (R194): the transaction of opcode 0x03, empty payload. -/
  | readGpio
  /-- `CRC_SEED v` (R123). -/
  | crcSeed (v : Word)
  /-- `CRC_UPDATE b` (R124). -/
  | crcUpdate (b : Byte)
  /-- `CRC_COMPUTE buf` (R125). -/
  | crcCompute (buf : List Byte)
  /-- `ENCODE opcode, payload` (R142). -/
  | encode (opcode : Byte) (payload : List Byte)
  /-- `DECODE expect, buf` (R168). -/
  | decode (expect : Byte) (buf : List Byte)
  /-- `RX_ABORT` (R173). -/
  | rxAbort
  /-- `TX_START opcode, payload` (R144). -/
  | txStart (opcode : Byte) (payload : List Byte)
  /-- `TX_STEP` (R145). -/
  | txStep
  /-- `RX_START expect` (R170). -/
  | rxStart (expect : Byte)
  /-- `RX_BYTE b` (R171). -/
  | rxByte (b : Byte)
  /-- `RX_END` (R172). -/
  | rxEnd
  /-- `CRC_INIT` (R126): pseudo, `CRC_SEED 0xFFFF`. -/
  | crcInit
  /-- `READ_REGISTER r` (R195): pseudo, `SPI_TRANSFER [r, 00]`. -/
  | readRegister (r : Byte)
  /-- `LED on` (R193, R107): pseudo, `LED [01]`. -/
  | ledOn
  /-- `LED off` (R193, R107): pseudo, `LED [00]`. -/
  | ledOff
  deriving DecidableEq, Repr

/-- The operations that have an operation code `OPC` (R103). -/
inductive OpName where
  | crcSeed | crcUpdate | crcCompute | encode | decode | rxAbort
  | txStart | txStep | rxStart | rxByte | rxEnd
  deriving DecidableEq, Repr

/-- A request, in one of the two formats that spec/opcode_table.json encodes (R108): an operation, or a frame. -/
inductive Request where
  /-- The byte that holds an operation code, and the operand bytes (Log 1). -/
  | op (bytes : List Byte)
  /-- The header of a frame and its payload, without the trailer (Log 1). -/
  | frame (bytes : List Byte)
  deriving DecidableEq, Repr

/-- Why a request is no instruction. -/
inductive DecodeError where
  /-- An operation request without a byte. -/
  | emptyRequest
  /-- Operation code 0x6, 0x7, 0xD, 0xE or 0xF (R104, U6). -/
  | reservedOperation (code : BitVec 4)
  /-- The first byte of an operation request is no 4-bit code: bits 7:4 are not zero (Log 1). -/
  | wideOperation (first : Byte)
  /-- The operand bytes are not those of the operation's operands (R105, Log 1). -/
  | operandBytes
  /-- A frame request whose five header bytes are not all there (R96, Log 17). -/
  | frameHeader
  /-- A frame opcode byte 0x04 to 0xFF: no payload shape, no response size, no transaction (R197, Log 17). -/
  | frameOpcode (opcode : Byte)
  /-- A VERSION or READ_GPIO request with a payload (R191, R194, Log 17). -/
  | framePayload
  /-- A transaction asked for with an instruction that is no frame (R190, Log 4). -/
  | notAFrame
  deriving DecidableEq, Repr

/-- What the host does next (R228): everything but a read, which changes nothing (R68). -/
inductive HostAction where
  /-- Issue a request: an operation, or a frame, whose transaction runs at level A (R227). -/
  | issue (r : Request)
  /-- Run the transaction of a frame or pseudo frame at level B, one operation or edge a step (R227). -/
  | levelB (i : Instr)
  /-- Create the Session (R211). -/
  | connect
  /-- Destroy the Session: the "explicit close" (R211, R228). -/
  | close
  deriving DecidableEq, Repr

end Sys2Proof
end

