-- ==== Sys2Proof/WellFormed.lean ====
section
/-! DEFINITION. Well-formed instructions: the operand ranges of spec/30_encoding.md R105. `u8` and `u16` operands
are in range by their types; a buffer operand has at most the length its operation accepts. -/

namespace Sys2Proof

/-- R105: a payload operand has at most `PAYLOAD_MAX` bytes. -/
abbrev payloadInRange (payload : List Byte) : Prop := payload.length ≤ Config.payloadMax

/-- R105: a received-buffer operand has at most `RX_MAX` bytes. -/
abbrev bufferInRange (buf : List Byte) : Prop := buf.length ≤ Config.rxMax

/-- The operand ranges of R105, instruction by instruction. -/
def Instr.wf : Instr → Bool
  | .version => true
  | .spiTransfer payload => decide (payloadInRange payload)
  | .led payload => decide (payloadInRange payload)
  | .readGpio => true
  | .crcSeed _ => true
  | .crcUpdate _ => true
  | .crcCompute _ => true
  | .encode _ payload => decide (payloadInRange payload)
  | .decode _ buf => decide (bufferInRange buf)
  | .rxAbort => true
  | .txStart _ payload => decide (payloadInRange payload)
  | .txStep => true
  | .rxStart _ => true
  | .rxByte _ => true
  | .rxEnd => true
  | .crcInit => true
  | .readRegister _ => true
  | .ledOn => true
  | .ledOff => true

/-- A well-formed instruction: every operand in the range R105 gives it. -/
abbrev Instr.WellFormed (i : Instr) : Prop := i.wf = true

end Sys2Proof
end

