-- ==== Sys2Proof/Decode.lean ====
section
/-! DEFINITION. Requests and instructions. The decoder, total on any bytes and rejecting by name, and the encoder.
R108 gives two formats, and R105 defines no packing of an operation with its operands into a word, so the bytes of a
request are the model's own (Log 1): for an operation, one byte holding its code `OPC` (R103) in bits 3:0 and zero in
bits 7:4, then its operands in their written order, 16-bit operands big-endian, a buffer operand taking the rest; for a
frame, the five header bytes of R96 and then the payload. A frame is selected by its opcode byte alone, bits 23:16 of
the header, mask 0x0000FF0000 (R108): sync and length field are not looked at, because the framer writes both (R91,
R93), as it does the trailer (R95). The bytes helpers `hi8`, `lo8`, `be16` are those of R12. -/

namespace Sys2Proof

/-- `hi8(v) = v[15:8]` (R12). -/
def hi8 (v : Word) : Byte := v.extractLsb' 8 8

/-- `lo8(v) = v[7:0]` (R12). -/
def lo8 (v : Word) : Byte := v.extractLsb' 0 8

/-- `be16(h, l) = (h << 8) | l` (R12, R63). -/
def be16 (h l : Byte) : Word := h ++ l

/-- The operation code `OPC` of an operation (R103). -/
def OpName.code : OpName → BitVec 4
  | .crcSeed => 0x0#4
  | .crcUpdate => 0x1#4
  | .crcCompute => 0x2#4
  | .encode => 0x3#4
  | .decode => 0x4#4
  | .rxAbort => 0x5#4
  | .txStart => 0x8#4
  | .txStep => 0x9#4
  | .rxStart => 0xA#4
  | .rxByte => 0xB#4
  | .rxEnd => 0xC#4

/-- The operation a code selects; `none` for the reserved codes 0x6, 0x7, 0xD, 0xE, 0xF (R103, R104). -/
def OpName.ofCode (c : BitVec 4) : Option OpName :=
  match c.toNat with
  | 0x0 => some .crcSeed
  | 0x1 => some .crcUpdate
  | 0x2 => some .crcCompute
  | 0x3 => some .encode
  | 0x4 => some .decode
  | 0x5 => some .rxAbort
  | 0x8 => some .txStart
  | 0x9 => some .txStep
  | 0xA => some .rxStart
  | 0xB => some .rxByte
  | 0xC => some .rxEnd
  | _ => none

/-- The operand bytes of an operation's request, read as its operands (R103, R105, Log 1). -/
def decodeOperands (n : OpName) (ops : List Byte) : Except DecodeError Instr :=
  match n with
  | .crcSeed =>
    match ops with
    | [h, l] => .ok (.crcSeed (be16 h l))
    | _ => .error .operandBytes
  | .crcUpdate =>
    match ops with
    | [b] => .ok (.crcUpdate b)
    | _ => .error .operandBytes
  | .crcCompute => .ok (.crcCompute ops)
  | .encode =>
    match ops with
    | opcode :: payload => .ok (.encode opcode payload)
    | [] => .error .operandBytes
  | .decode =>
    match ops with
    | expect :: buf => .ok (.decode expect buf)
    | [] => .error .operandBytes
  | .rxAbort =>
    match ops with
    | [] => .ok .rxAbort
    | _ => .error .operandBytes
  | .txStart =>
    match ops with
    | opcode :: payload => .ok (.txStart opcode payload)
    | [] => .error .operandBytes
  | .txStep =>
    match ops with
    | [] => .ok .txStep
    | _ => .error .operandBytes
  | .rxStart =>
    match ops with
    | [expect] => .ok (.rxStart expect)
    | _ => .error .operandBytes
  | .rxByte =>
    match ops with
    | [b] => .ok (.rxByte b)
    | _ => .error .operandBytes
  | .rxEnd =>
    match ops with
    | [] => .ok .rxEnd
    | _ => .error .operandBytes

/-- The frame an opcode byte selects, with this payload (R98, R99, R197). -/
def decodeFrame (opcode : Byte) (payload : List Byte) : Except DecodeError Instr :=
  match opcode.toNat with
  | 0x00 => if payload = [] then .ok .version else .error .framePayload
  | 0x01 => .ok (.spiTransfer payload)
  | 0x02 => .ok (.led payload)
  | 0x03 => if payload = [] then .ok .readGpio else .error .framePayload
  | _ => .error (.frameOpcode opcode)

/-- A row of format OP: selected by the 4-bit operation code (R103, R104, R108). -/
def decodeOperation (m : List Byte) : Except DecodeError Instr :=
  match m with
  | [] => .error .emptyRequest
  | first :: rest =>
    if first.extractLsb' 4 4 = 0#4 then
      match OpName.ofCode (first.extractLsb' 0 4) with
      | some n => decodeOperands n rest
      | none => .error (.reservedOperation (first.extractLsb' 0 4))
    else .error (.wideOperation first)

/-- A row of format FRAME: selected by the opcode byte, bits 23:16 of the 40-bit header, alone (R96, R108). -/
def decodeHeader (m : List Byte) : Except DecodeError Instr :=
  match m with
  | _ :: _ :: opcode :: _ :: _ :: payload => decodeFrame opcode payload
  | _ => .error .frameHeader

/-- The decoder: the instruction of a request, or why there is none (R108, Log 1). -/
def decodeRequest (r : Request) : Except DecodeError Instr :=
  match r with
  | .op m => decodeOperation m
  | .frame m => decodeHeader m

/-- The instruction a pseudo row is another name for (R107, R108); every other instruction is its own. -/
def Instr.expand : Instr → Instr
  | .crcInit => .crcSeed Config.seedInit
  | .readRegister r => .spiTransfer [r, 0x00#8]
  | .ledOn => .led [0x01#8]
  | .ledOff => .led [0x00#8]
  | .version => .version
  | .spiTransfer payload => .spiTransfer payload
  | .led payload => .led payload
  | .readGpio => .readGpio
  | .crcSeed v => .crcSeed v
  | .crcUpdate b => .crcUpdate b
  | .crcCompute buf => .crcCompute buf
  | .encode opcode payload => .encode opcode payload
  | .decode expect buf => .decode expect buf
  | .rxAbort => .rxAbort
  | .txStart opcode payload => .txStart opcode payload
  | .txStep => .txStep
  | .rxStart expect => .rxStart expect
  | .rxByte b => .rxByte b
  | .rxEnd => .rxEnd

/-- The first byte of an operation's request: its code in bits 3:0 (Log 1). -/
def opByte (n : OpName) : Byte := 0x0#4 ++ n.code

/-- The frame request of an opcode byte and a payload: the header as emitted (R90, R108) and the payload. -/
def frameRequest (opcode : Byte) (payload : List Byte) : Request :=
  .frame (Config.syncHi :: Config.syncLo :: opcode ::
    hi8 (BitVec.ofNat 16 payload.length) :: lo8 (BitVec.ofNat 16 payload.length) :: payload)

/-- The encoder: the request of an instruction. A pseudo row has the request of its expansion (R108). -/
def encodeRequest : Instr → Request
  | .version => frameRequest Config.opVersion []
  | .spiTransfer payload => frameRequest Config.opSpiTransfer payload
  | .led payload => frameRequest Config.opLed payload
  | .readGpio => frameRequest Config.opReadGpio []
  | .crcSeed v => .op [opByte .crcSeed, hi8 v, lo8 v]
  | .crcUpdate b => .op [opByte .crcUpdate, b]
  | .crcCompute buf => .op (opByte .crcCompute :: buf)
  | .encode opcode payload => .op (opByte .encode :: opcode :: payload)
  | .decode expect buf => .op (opByte .decode :: expect :: buf)
  | .rxAbort => .op [opByte .rxAbort]
  | .txStart opcode payload => .op (opByte .txStart :: opcode :: payload)
  | .txStep => .op [opByte .txStep]
  | .rxStart expect => .op [opByte .rxStart, expect]
  | .rxByte b => .op [opByte .rxByte, b]
  | .rxEnd => .op [opByte .rxEnd]
  | .crcInit => .op [opByte .crcSeed, hi8 Config.seedInit, lo8 Config.seedInit]
  | .readRegister r => frameRequest Config.opSpiTransfer [r, 0x00#8]
  | .ledOn => frameRequest Config.opLed [0x01#8]
  | .ledOff => frameRequest Config.opLed [0x00#8]

/-- The `n` bytes of `w`, most significant first: a table word laid out as the wire carries it (R62, R96). -/
def wordBytes : Nat → Nat → List Byte
  | 0, _ => []
  | n + 1, w => BitVec.ofNat 8 (w / 256 ^ n) :: wordBytes n w

/-- How many operand bytes an operation has before any buffer operand (R103, Log 1). -/
def OpName.operandBytes : OpName → Nat
  | .crcSeed => 2
  | .crcUpdate => 1
  | .crcCompute => 0
  | .encode => 1
  | .decode => 1
  | .rxAbort => 0
  | .txStart => 1
  | .txStep => 0
  | .rxStart => 1
  | .rxByte => 1
  | .rxEnd => 0

/-- An operation byte with zero bytes for the fixed operands, its buffer operand empty. -/
def padOperation (m : List Byte) : List Byte :=
  match m with
  | [b] =>
    match OpName.ofCode (b.extractLsb' 0 4) with
    | some n => b :: List.replicate n.operandBytes 0x00#8
    | none => [b]
  | _ => m

/-- How many payload bytes follow a header in a frame request: as many as its length field counts for SPI_TRANSFER and
LED, none for VERSION and READ_GPIO, whose request payload is empty (R98). -/
def padLength (opcode : Byte) (len : Word) : Nat :=
  if opcode = Config.opSpiTransfer ∨ opcode = Config.opLed then len.toNat else 0

/-- A header with zero bytes for the payload. -/
def padFrame (m : List Byte) : List Byte :=
  match m with
  | [sh, sl, opcode, lh, ll] => sh :: sl :: opcode :: lh :: ll :: List.replicate (padLength opcode (be16 lh ll)) 0x00#8
  | _ => m

/-- The request of a table word: `nbits` bits of `w`, in whole bytes, with zero operand bytes after them. A row of one
byte has format OP, a longer one FRAME (R108), whose header the table numbers as one 40-bit word with bit 39 being bit
7 of byte 0 (R96). -/
def tableRequest (nbits w : Nat) : Request :=
  if nbits ≤ 8 then .op (padOperation (wordBytes 1 w))
  else .frame (padFrame (wordBytes ((nbits + 7) / 8) w))

/-- The instruction the decoder reads from a word of spec/opcode_table.json. -/
def decodeTableWord (nbits w : Nat) : Option Instr :=
  match decodeRequest (tableRequest nbits w) with
  | .ok i => some i
  | .error _ => none

end Sys2Proof
end

