-- ==== Sys2Proof/Machine/State.lean ====
section
/-! DEFINITION. The state of the machine: every register, flag, bit and buffer of spec/10_state.md R20 to R39, the
output history `TXOUT` (R40), the Session and its transaction (spec/44_host_transport.md R211, R212), the verdicts and
results along the way (R228), the environment's inputs (R44) and what the host has still to do (R228). Plain data
throughout. -/

namespace Sys2Proof.Machine

/-- A byte buffer as (index, byte) cells; canonical when the indices strictly rise. An unlisted index has no value
(R38, R39, R282, Log 11). -/
abbrev Mem := List Host.Cell

/-- The error kinds (R240). The first three are reported in `ERR`; `timeout` is the transport's (R244);
`payloadTooLarge` is only ever the flag `TRUNC` (R245). -/
inductive ErrorKind where
  | frameTooShort
  | checksumMismatch
  | opcodeMismatch
  | timeout
  | payloadTooLarge
  deriving DecidableEq, Repr

/-- The Command Layer operations (R220 to R224). -/
inductive Command where
  | readVersion | setLed | readGpio | spiTransfer | readRegister
  deriving DecidableEq, Repr

/-- The states of a transaction in flight (R212). The seventh, `Idle`, is the Session without a transaction. -/
inductive Stage where
  | draining
  | sending
  | awaitingResponse
  | validating
  | complete
  | failed
  deriving DecidableEq, Repr

/-- What a Command Layer operation gives its caller (R220 to R224, R252). -/
inductive CommandResult where
  /-- `read_version`: a string; "unknown" on OpcodeMismatch (R220). -/
  | versionText (text : String)
  /-- `set_led`: whether the response was the exact echo (R221). -/
  | ledEcho (ok : Bool)
  /-- `read_gpio`: the DIO0 and DIO5 state bytes (R222). -/
  | gpioState (dio0 dio5 : Byte)
  /-- `spi_transfer`: the bytes read (R223). -/
  | spiData (data : List Byte)
  /-- `read_register`: the register's byte (R224). -/
  | registerValue (b : Byte)
  /-- A typed failure (R252). -/
  | failure (kind : ErrorKind)
  deriving DecidableEq, Repr

/-- What one transaction's read meets: the bytes that arrive before the deadline `T_TIMEOUT`, and those that arrive
after the read has ended and wait for the next drain (R215, R295). The environment's freedom (U11, Log 5). -/
structure Arrival where
  inTime : List Byte
  late : List Byte
  deriving DecidableEq, Repr

/-- The byte stream's input side: what is buffered now (`bytes-available`, R213), what will come only after the read in
progress has ended, and what each following read will meet, the next one first (Log 5); an empty list means that
nothing arrives any more. -/
structure Stream where
  buffered : List Byte
  late : List Byte
  arrivals : List Arrival
  deriving DecidableEq, Repr

/-- A Transaction (R211): "an ephemeral request/response pair". The operation it serves, its request's opcode, which is
the expected one (R190), its payload, its state, and, from the end of `Sending` on, the sent frame and the expected
length `E` (R216). -/
structure Txn where
  command : Command
  expectOp : Byte
  payload : List Byte
  stage : Stage
  sent : List Byte
  expectLen : Nat
  deriving DecidableEq, Repr

/-- A Session (R211): at most one transaction in flight; none in state `Idle` (R212). -/
structure Session where
  txn : Option Txn
  deriving DecidableEq, Repr

/-- One verdict of a decode, as it is reported (R28, R31, R33, R34, R248). -/
structure Verdict where
  err : ErrCode
  syncOk : Bool
  lenOk : Bool
  plen : Word
  deriving DecidableEq, Repr

/-- The machine. -/
structure State where
  /-- `CRC` (R21). -/
  crc : Word
  /-- `ERR` (R31). -/
  err : ErrCode
  /-- `TRUNC` (R32). -/
  trunc : Bool
  /-- `SYNC_OK` (R33). -/
  syncOk : Bool
  /-- `LEN_OK` (R34). -/
  lenOk : Bool
  /-- `RX_DONE` (R35). -/
  rxDone : Bool
  /-- `TX_OPCODE` (R22). -/
  txOpcode : Byte
  /-- `TX_LEN` (R23). -/
  txLen : Word
  /-- `TX_IDX` (R24). -/
  txIdx : Index
  /-- `TX_BUSY` (R25). -/
  txBusy : Bool
  /-- `RX_EXPECT` (R26). -/
  rxExpect : Byte
  /-- `RX_N` (R27). -/
  rxN : Index
  /-- `RX_PLEN` (R28). -/
  rxPlen : Word
  /-- `RX_BUSY` (R29). -/
  rxBusy : Bool
  /-- `TXBUF` (R38). -/
  txbuf : Mem
  /-- `RXBUF` (R39). -/
  rxbuf : Mem
  /-- `TXOUT` (R40): every byte emitted, in order (Log 15). -/
  txout : List Byte
  /-- The byte stream's input side (R10, R213; Log 5). -/
  stream : Stream
  /-- The Session (R211, R212): `none` before connect and after close. -/
  session : Option Session
  /-- The verdicts along the way, oldest first (R228; Log 15). -/
  verdicts : List Verdict
  /-- What the Command Layer has returned, oldest first (R220 to R224, R252; Log 15). -/
  results : List CommandResult
  /-- What the host has still to do (R228, Log 2). -/
  actions : List HostAction
  /-- The reset input, asserted for the next transition (R280, Log 3). -/
  resetInput : Bool
  deriving DecidableEq, Repr

/-- Reasons a step could fault: none. "There is no third 'fault' state of the block: nothing the block does can trap
or hang" (R14, Log 12). -/
inductive Fault where
  deriving DecidableEq, Repr

/-- Reasons the machine has no next state: the refusals of R257. Each is the spec's own "refuse" (R14), so stopping
there is safe: the spec defines no next state. -/
inductive Refusal where
  /-- No meaning yet: raised by a refused arm of `exec`; safe. No arm is refused in this model. -/
  | notModelled (mnemonic : String)
  /-- Another run is in progress (R25, R29, R146, U5): raised by every operation that is not a continuation of the
  run in progress; safe. -/
  | busy
  /-- `TX_STEP` while not sending (R145, U15); safe. -/
  | notSending
  /-- `RX_BYTE` or `RX_END` while not receiving (R171, R172, U15); safe. -/
  | notReceiving
  /-- `ENCODE`, `TX_START`, or a frame, with a payload longer than 65535 bytes (R142, R144, U7); safe. -/
  | payloadTooLong
  /-- `DECODE` of more than 65542 bytes, or `RX_BYTE` at `RX_N` = 65542 (R174, U8); safe. -/
  | rxOverrun
  /-- A read of a buffer byte or a view that has no value (R30, R38, R39, U9): raised by the host's reads; no
  operation raises it in a state that satisfies the block's invariant (Log 13); safe. -/
  | noValue
  /-- A frame asked for while a transaction is in flight (R211, R225, U4, Log 16); safe. -/
  | sessionBusy
  /-- A frame, or a close, without a Session (R211, Log 16); safe. -/
  | noSession
  /-- A connect while the Session exists, which is created once (R211, Log 16); safe. -/
  | sessionOpen
  /-- The request is no instruction (R104, R197, U6, Log 1, Log 17), or a transaction is asked for with an instruction
  that is no frame: raised by `step`; safe. -/
  | undecodable (why : DecodeError)
  deriving DecidableEq, Repr

/-- What a meaning answers. -/
abbrev Result := Host.Outcome State Fault Refusal

/-- The stream when nothing is buffered and nothing will arrive (Log 18). -/
def Stream.quiet : Stream := { buffered := [], late := [], arrivals := [] }

/-- The Session in state `Idle` (R212). -/
def Session.idle : Session := { txn := none }

/-- The machine right after reset (R43, R281, R282): `CRC` = 0xFFFF, every other register, flag and busy bit 0, no
byte of a buffer with a value. The Session is connected and `Idle`; the other fields of the host and the environment
are empty (Log 2, 3, 15, 18). -/
def State.reset : State where
  crc := Config.seedInit
  err := 0#3
  trunc := false
  syncOk := false
  lenOk := false
  rxDone := false
  txOpcode := 0x00#8
  txLen := 0#16
  txIdx := 0#17
  txBusy := false
  rxExpect := 0x00#8
  rxN := 0#17
  rxPlen := 0#16
  rxBusy := false
  txbuf := []
  rxbuf := []
  txout := []
  stream := Stream.quiet
  session := some Session.idle
  verdicts := []
  results := []
  actions := []
  resetInput := false

end Sys2Proof.Machine
end

