-- ==== Sys2Proof/Machine/Ops.lean ====
section
/-! DEFINITION. The named operations over buffers and registers: cells, the defined parts of `TXBUF` and `RXBUF`,
the output stream, the busy rules, reporting a verdict and clearing one, reset, and taking the host's next action. -/

namespace Sys2Proof.Machine

/-! ## Buffers (spec/20_memory.md R60, R66; spec/10_state.md R38, R39) -/

/-- The byte at index `a`; `none` where no byte has a value (R38, R39, U9). -/
def Mem.read (m : Mem) (a : Nat) : Option Byte :=
  match m with
  | [] => none
  | (k, b) :: rest => if k = a then some b else Mem.read rest a

/-- `MemWrite(space, a, 1, b)` (R14): keeps the indices strictly rising. -/
def Mem.write (m : Mem) (a : Nat) (b : Byte) : Mem :=
  match m with
  | [] => [(a, b)]
  | (k, c) :: rest =>
    if k < a then (k, c) :: Mem.write rest a b
    else if k = a then (a, b) :: rest
    else (a, b) :: (k, c) :: rest

/-- The buffer that holds `bs` from index `a` on and no other byte: `MemWrite(space, a, len(bs), bs)` into a buffer
whose other bytes have no value. -/
def Mem.ofBytes (a : Nat) (bs : List Byte) : Mem :=
  match bs with
  | [] => []
  | b :: rest => (a, b) :: Mem.ofBytes (a + 1) rest

/-- Whether every index of `m` is above `a` and they strictly rise. -/
def Mem.risesFrom (a : Nat) (m : Mem) : Bool :=
  match m with
  | [] => true
  | (k, _) :: rest => decide (a < k) && Mem.risesFrom k rest

/-- The canonical form: strictly rising indices. Every listed byte has a value, which no unlisted one has. -/
def Mem.wf (m : Mem) : Bool :=
  match m with
  | [] => true
  | (k, _) :: rest => Mem.risesFrom k rest

/-- The bytes of a buffer in index order. -/
def Mem.bytes (m : Mem) : List Byte := m.map Prod.snd

/-! ## The defined parts of the buffers -/

/-- `TXBUF[i]`: defined for `i < TX_LEN` (R38). -/
def readTxbuf (s : State) (i : Nat) : Option Byte :=
  if i < s.txLen.toNat then s.txbuf.read i else none

/-- `RXBUF[i]`: defined for `i < RX_N` (R39). -/
def readRxbuf (s : State) (i : Nat) : Option Byte :=
  if i < s.rxN.toNat then s.rxbuf.read i else none

/-- `RXBUF[a : a + n]`, when every byte of it is defined. -/
def readRxSlice (s : State) (a : Nat) : Nat → Option (List Byte)
  | 0 => some []
  | n + 1 =>
    match readRxbuf s a, readRxSlice s (a + 1) n with
    | some b, some bs => some (b :: bs)
    | _, _ => none

/-- `be16(RXBUF[i], RXBUF[i + 1])` (R63), when both bytes are defined. -/
def readRxWord (s : State) (i : Nat) : Option Word :=
  match readRxbuf s i, readRxbuf s (i + 1) with
  | some h, some l => some (be16 h l)
  | _, _ => none

/-- `emit` (R14), byte by byte in order: the bytes go to `TXOUT`. -/
def emit (s : State) (bs : List Byte) : State := { s with txout := s.txout ++ bs }

/-! ## The busy rules (R25, R29, R146) -/

/-- `STATUS.BUSY` = `TX_BUSY` or `RX_BUSY` (R36). -/
def State.busy (s : State) : Bool := s.txBusy || s.rxBusy

/-- "if TX_BUSY == 1 or RX_BUSY == 1 then refuse(busy)": what `s` answers when idle is `r`. -/
def whenIdle (s : State) (r : Result) : Result :=
  if s.busy = true then .refused .busy else r

/-! ## Reporting and clearing a verdict (spec/60_exceptions.md R248 to R250): the analogue of taking an exception
and of returning from one -/

/-- The code of an error kind (R246). -/
def ErrorKind.code : ErrorKind → ErrCode
  | .frameTooShort => 1#3
  | .checksumMismatch => 2#3
  | .opcodeMismatch => 3#3
  | .timeout => 4#3
  | .payloadTooLarge => 5#3

/-- The kind a code of `ERR` names (R246); `none` for 0 (no error) and the reserved 6 and 7. -/
def ErrorKind.ofCode (c : ErrCode) : Option ErrorKind :=
  match c.toNat with
  | 1 => some .frameTooShort
  | 2 => some .checksumMismatch
  | 3 => some .opcodeMismatch
  | 4 => some .timeout
  | 5 => some .payloadTooLarge
  | _ => none

/-- What a verdict, an error kind or the delivered payload's length, writes to `ERR` (R246, R248). -/
def verdictErr (verdict : Except ErrorKind Nat) : ErrCode :=
  match verdict with
  | .error k => k.code
  | .ok _ => 0#3

/-- What a verdict writes to `RX_PLEN` (R28, R248): no payload on an error. -/
def verdictLen (verdict : Except ErrorKind Nat) : Word :=
  match verdict with
  | .error _ => 0#16
  | .ok n => BitVec.ofNat 16 n

/-- The end of a decode (R168, R172, R248): `ERR` and `RX_PLEN` by the verdict, `SYNC_OK` and `LEN_OK` as computed,
`RX_DONE` = 1, `RX_BUSY` = 0. Nothing else of the block changes (R249); the verdict joins those along the way (R228). -/
def reportVerdict (s : State) (syncOk lenOk : Bool) (verdict : Except ErrorKind Nat) : State :=
  { s with
    err := verdictErr verdict
    rxPlen := verdictLen verdict
    syncOk := syncOk
    lenOk := lenOk
    rxDone := true
    rxBusy := false
    verdicts := s.verdicts ++
      [{ err := verdictErr verdict, syncOk := syncOk, lenOk := lenOk, plen := verdictLen verdict }] }

/-- The previous buffer and its verdict discarded (R170, R173, R250): `RX_N` = 0 with no defined byte of `RXBUF`,
`RX_PLEN`, `ERR`, `SYNC_OK`, `LEN_OK` and `RX_DONE` cleared. -/
def clearVerdict (s : State) : State :=
  { s with rxN := 0#17, rxbuf := [], rxPlen := 0#16, err := 0#3, syncOk := false, lenOk := false, rxDone := false }

/-! ## The byte stream's input side (R213, R215, R295; Log 5) -/

/-- The next read's arrivals; nothing when the environment delivers no more. -/
def Stream.next (st : Stream) : Arrival :=
  match st.arrivals with
  | [] => { inTime := [], late := [] }
  | a :: _ => a

/-- The drain (R213): what is buffered is discarded. -/
def Stream.drained (st : Stream) : Stream := { st with buffered := [] }

/-- A read begins (R215): what arrives before the deadline is there to be taken. -/
def Stream.opened (st : Stream) : Stream :=
  { buffered := st.buffered ++ st.next.inTime, late := st.next.late, arrivals := st.arrivals.tail }

/-- The first `n` bytes are taken; the others stay (R215). -/
def Stream.taken (st : Stream) (n : Nat) : Stream := { st with buffered := st.buffered.drop n }

/-- The read has ended (R215, R295): what comes from now on waits for the next drain. -/
def Stream.closed (st : Stream) : Stream := { st with buffered := st.buffered ++ st.late, late := [] }

/-! ## The Session, reset and the next action -/

/-- The transaction in flight, if there is one (R211). -/
def State.txn (s : State) : Option Txn :=
  match s.session with
  | some x => x.txn
  | none => none

/-- The Session with this transaction in flight, or `Idle` (R211, R212). -/
def setTxn (s : State) (o : Option Txn) : State := { s with session := some { txn := o } }

/-- The reset input taken (R43, R280 to R284): every register, flag and buffer at its reset value. What has been
emitted, reported and returned stays, and the transport's input is not drained: the bytes of a response still in flight,
all that is unread of the answer to a frame sent whole, wait for the next drain (R284). A transaction in flight ends without a result, the Session stays connected, and the
host keeps what it has still to do; the input is then no longer asserted (Log 3). -/
def assertReset (s : State) : State :=
  { State.reset with
    txout := s.txout
    stream := s.stream.closed
    session := s.session.map fun _ => Session.idle
    verdicts := s.verdicts
    results := s.results
    actions := s.actions }

/-- The host's next action (R72, R228), and the state that is left once it is taken. -/
def nextAction (s : State) : Option (HostAction × State) :=
  match s.actions with
  | [] => none
  | a :: rest => some (a, { s with actions := rest })

end Sys2Proof.Machine
end

