-- ==== Sys2Proof/Machine/Operands.lean ====
section
/-! DEFINITION. Operands, field positions and register reads: slices of a buffer operand, the fields the deframer
locates (spec/42_deframer.md R162), truncation (spec/41_framer.md R141), the views (spec/10_state.md R30) and the
twelve numbered registers (R20). -/

namespace Sys2Proof.Machine

/-- `B[a:b]` (R13): bytes `a` to `b - 1`. -/
def slice (buf : List Byte) (a b : Nat) : List Byte := (buf.drop a).take (b - a)

/-- Byte `i` of a buffer operand; used only where `i < len(buf)` (R13). -/
def byteAt (buf : List Byte) (i : Nat) : Byte := buf.getD i 0x00#8

/-- `be16(buf[3], buf[4])`, the length field (R93, R162). -/
def lengthField (buf : List Byte) : Word := be16 (byteAt buf 3) (byteAt buf 4)

/-- `be16(buf[N-2], buf[N-1])`, the trailer (R95, R162). -/
def trailer (buf : List Byte) : Word := be16 (byteAt buf (buf.length - 2)) (byteAt buf (buf.length - 1))

/-- `buf[2 : N-2]`, the CRC region (R69, R163). -/
def crcRegion (buf : List Byte) : List Byte := slice buf 2 (buf.length - 2)

/-- `truncate(opcode, payload)` (R141): SPI_TRANSFER keeps the first 1024 bytes. -/
def truncate (opcode : Byte) (payload : List Byte) : List Byte :=
  if opcode = Config.opSpiTransfer ∧ Config.spiMax < payload.length then payload.take Config.spiMax else payload

/-! ## Views (R30) -/

/-- `RX_SYNC`: defined when `RX_N >= 2`. -/
def rxSyncView (s : State) : Option Word :=
  if 2 ≤ s.rxN.toNat then readRxWord s 0 else none

/-- `RX_OPCODE`: defined when `RX_N >= 3`. -/
def rxOpcodeView (s : State) : Option Byte :=
  if 3 ≤ s.rxN.toNat then readRxbuf s 2 else none

/-- `RX_LEN`: defined when `RX_N >= 5`. -/
def rxLenView (s : State) : Option Word :=
  if 5 ≤ s.rxN.toNat then readRxWord s 3 else none

/-- `be16(RXBUF[RX_N - 2], RXBUF[RX_N - 1])`, what `RX_END` reads as the received CRC (R172). -/
def rxTrailer (s : State) : Option Word := readRxWord s (s.rxN.toNat - 2)

/-- `RX_CRC`: defined when `RX_BUSY == 0` and `RX_N >= 7`. -/
def rxCrcView (s : State) : Option Word :=
  if s.rxBusy = false ∧ 7 ≤ s.rxN.toNat then rxTrailer s else none

/-- The numbered registers (R20). -/
inductive Reg where
  | crc | status | txOpcode | txLen | txIdx | rxExpect | rxN | rxPlen | rxSync | rxOpcode | rxLen | rxCrc
  deriving DecidableEq, Repr

/-- The number of a register (R20). -/
def Reg.number : Reg → Nat
  | .crc => 0
  | .status => 1
  | .txOpcode => 2
  | .txLen => 3
  | .txIdx => 4
  | .rxExpect => 5
  | .rxN => 6
  | .rxPlen => 7
  | .rxSync => 8
  | .rxOpcode => 9
  | .rxLen => 10
  | .rxCrc => 11

end Sys2Proof.Machine
end

