-- ==== Sys2Proof/Machine/Flags.lean ====
section
/-! DEFINITION. Flag computations: `TRUNC`, `SYNC_OK`, `LEN_OK`, the packing of `STATUS` (spec/10_state.md R32 to
R36), and the host's read of a numbered register, which needs that packing (R20). -/

namespace Sys2Proof.Machine

/-- `TRUNC` (R32): an SPI_TRANSFER payload was cut. -/
def truncFlag (opcode : Byte) (payload : List Byte) : Bool :=
  opcode == 0x01#8 && decide (1024 < payload.length)

/-- `SYNC_OK` of a buffer operand (R33, R166): at least two bytes, and they are 0xAB, 0xCD. -/
def syncFlag (buf : List Byte) : Bool :=
  decide (2 ≤ buf.length) && (byteAt buf 0 == 0xAB#8 && byteAt buf 1 == 0xCD#8)

/-- `LEN_OK` of a buffer operand (R34, R167): at least seven bytes, and the length field counts the body. -/
def lenFlag (buf : List Byte) : Bool :=
  decide (7 ≤ buf.length) && (lengthField buf).toNat == buf.length - 7

/-- `SYNC_OK` of the received buffer in `RXBUF` (R33, R172). -/
def rxSyncFlag (s : State) : Bool :=
  decide (2 ≤ s.rxN.toNat) && (readRxbuf s 0 == some 0xAB#8 && readRxbuf s 1 == some 0xCD#8)

/-- One bit of a packing. -/
def flagBit (b : Bool) : BitVec 1 := if b then 1#1 else 0#1

/-- `STATUS` (R36): bits 2:0 `ERR`, 3 `TRUNC`, 4 `SYNC_OK`, 5 `LEN_OK`, 6 `RX_DONE`, 7 `BUSY`. -/
def statusReg (s : State) : Byte :=
  flagBit s.busy ++ (flagBit s.rxDone ++ (flagBit s.lenOk ++ (flagBit s.syncOk ++ (flagBit s.trunc ++ s.err))))

/-- The host's read of a numbered register, widened with zeros to 17 bits (R20); a view outside its condition has no
value and the read is refused (R30, U9). Reading changes nothing (R68). -/
def readReg (s : State) (r : Reg) : Except Refusal Index :=
  match r with
  | .crc => .ok (s.crc.setWidth 17)
  | .status => .ok ((statusReg s).setWidth 17)
  | .txOpcode => .ok (s.txOpcode.setWidth 17)
  | .txLen => .ok (s.txLen.setWidth 17)
  | .txIdx => .ok s.txIdx
  | .rxExpect => .ok (s.rxExpect.setWidth 17)
  | .rxN => .ok s.rxN
  | .rxPlen => .ok (s.rxPlen.setWidth 17)
  | .rxSync => match rxSyncView s with | some v => .ok (v.setWidth 17) | none => .error .noValue
  | .rxOpcode => match rxOpcodeView s with | some v => .ok (v.setWidth 17) | none => .error .noValue
  | .rxLen => match rxLenView s with | some v => .ok (v.setWidth 17) | none => .error .noValue
  | .rxCrc => match rxCrcView s with | some v => .ok (v.setWidth 17) | none => .error .noValue

/-- The host's read of `TXBUF[i]`, refused for `i >= TX_LEN` (R38, U9). DESIGN CHOICE (Log 9): whether the host may
read `TXBUF` at all is left open; R38 and R60 name only the framer as its reader, R225 lets the host read any defined
buffer byte, and the model gives it the byte. -/
def hostReadTxbuf (s : State) (i : Nat) : Except Refusal Byte :=
  match readTxbuf s i with
  | some b => .ok b
  | none => .error .noValue

/-- The host's read of `RXBUF[i]`, refused for `i >= RX_N` (R39, U9). -/
def hostReadRxbuf (s : State) (i : Nat) : Except Refusal Byte :=
  match readRxbuf s i with
  | some b => .ok b
  | none => .error .noValue

end Sys2Proof.Machine
end

