-- ==== Sys2Proof/Machine/Deframer.lean ====
section
/-! DEFINITION. The deframer (spec/42_deframer.md): `decode_and_validate`, the phases of a reception, and the
operations `DECODE`, `RX_START`, `RX_BYTE`, `RX_END`, `RX_ABORT`. -/

namespace Sys2Proof.Machine

/-! ## The function (R160) -/

/-- The three checks in their order (R165): length, CRC, opcode. `none` when all pass. -/
def firstFailure (buf : List Byte) (expect : Byte) : Option ErrorKind :=
  if buf.length < Config.minFrame then some .frameTooShort
  else if crcCompute (crcRegion buf) ≠ trailer buf then some .checksumMismatch
  else if byteAt buf 2 ≠ expect then some .opcodeMismatch
  else none

/-- The payload of a buffer of at least seven bytes (R167): the first `min(rxlen, N - 7)` bytes of the body. -/
def deliveredPayload (buf : List Byte) : List Byte :=
  slice buf 5 (5 + min (lengthField buf).toNat (buf.length - Config.minFrame))

/-- `decode_and_validate(buf, expect)` (R160). -/
def decodeAndValidate (buf : List Byte) (expect : Byte) : Except ErrorKind (List Byte) :=
  match firstFailure buf expect with
  | some k => .error k
  | none => .ok (deliveredPayload buf)

/-- The verdict as the block records it: the error kind, or the length of the payload. -/
def verdictOf (r : Except ErrorKind (List Byte)) : Except ErrorKind Nat :=
  match r with
  | .error k => .error k
  | .ok p => .ok p.length

/-! ## The phases of a reception (R169) -/

/-- What the next byte is. -/
inductive RxPhase where
  | syncHi | syncLo | opcode | lenHi | lenLo | body
  deriving DecidableEq, Repr

/-- The phase at `RX_N` = `i` (R169). -/
def rxPhase (i : Nat) : RxPhase :=
  if i = 0 then .syncHi
  else if i = 1 then .syncLo
  else if i = 2 then .opcode
  else if i = 3 then .lenHi
  else if i = 4 then .lenLo
  else .body

/-- Whether the byte two places back is folded into `CRC` in a phase (R169). -/
def RxPhase.foldsTwoBack : RxPhase → Bool
  | .syncHi => false
  | .syncLo => false
  | .opcode => false
  | .lenHi => false
  | .lenLo => true
  | .body => true

/-! ## The operations -/

/-- `CRC` after a whole `DECODE` (R168, D25): of `buf[2 : N-2]` when `N >= 4`, else the seed. -/
def receivedCrc (buf : List Byte) : Word :=
  if 4 ≤ buf.length then crcCompute (crcRegion buf) else Config.seedInit

/-- The received buffer and its operands in place (R168): `RX_EXPECT`, `RXBUF`, `RX_N`, `CRC`. -/
def loadBuffer (s : State) (expect : Byte) (buf : List Byte) : State :=
  { s with
    rxExpect := expect
    rxbuf := Mem.ofBytes 0 buf
    rxN := BitVec.ofNat 17 buf.length
    crc := receivedCrc buf }

/-- The operation `DECODE` (R168), for the instruction and for a level A transaction's validation. -/
def decodeOp (expect : Byte) (buf : List Byte) (s : State) : Result :=
  whenIdle s
    (if Config.rxMax < buf.length then .refused .rxOverrun
     else .next (reportVerdict (loadBuffer s expect buf) (syncFlag buf) (lenFlag buf)
       (verdictOf (decodeAndValidate buf expect))))

/-- The operation `RX_ABORT` (R173), for the instruction and for a transaction's timeout: refused only while
sending; `CRC` and `RX_EXPECT` keep what they held (D28). -/
def abortOp (s : State) : Result :=
  if s.txBusy = true then .refused .busy else .next { clearVerdict s with rxBusy := false }

/-- The state `RX_START` leaves (R170). -/
def receiveStart (s : State) (expect : Byte) : State :=
  { clearVerdict s with rxExpect := expect, crc := Config.seedInit, rxBusy := true }

/-- The state `RX_BYTE` leaves when `CRC` becomes `c` (R171). -/
def receiveByte (s : State) (b : Byte) (c : Word) : State :=
  { s with rxbuf := s.rxbuf.write s.rxN.toNat b, crc := c, rxN := s.rxN + 1#17 }

/-- `CRC` after `RX_BYTE` (R169, R171): the byte two places back is folded from the fifth byte on; `none` if that
byte has no value, which no run reaches (Log 13). -/
def crcTwoBack (s : State) : Option Word :=
  if (rxPhase s.rxN.toNat).foldsTwoBack then
    match readRxbuf s (s.rxN.toNat - 2) with
    | some b => some (crcUpdate s.crc b)
    | none => none
  else some s.crc

/-- The verdict of `RX_END` on the fields located in `RXBUF` (R172), for `RX_N >= 7`. -/
def endVerdict (s : State) (len rxCrc : Word) (opcode : Byte) : Except ErrorKind Nat :=
  if s.crc ≠ rxCrc then .error .checksumMismatch
  else if opcode ≠ s.rxExpect then .error .opcodeMismatch
  else .ok (min len.toNat (s.rxN.toNat - Config.minFrame))

/-- The operation `RX_START` (R170), for the instruction and for a level B transaction's read. -/
def rxStartOp (expect : Byte) (s : State) : Result := whenIdle s (.next (receiveStart s expect))

/-- The operation `RX_BYTE` (R171, R174), for the instruction and for a level B transaction's read. -/
def rxByteOp (b : Byte) (s : State) : Result :=
  if s.rxBusy = false then .refused .notReceiving
  else if Config.rxMax ≤ s.rxN.toNat then .refused .rxOverrun
  else
    match crcTwoBack s with
    | some c => .next (receiveByte s b c)
    | none => .refused .noValue

/-- The operation `RX_END` (R172), for the instruction and for a level B transaction's validation. -/
def rxEndOp (s : State) : Result :=
  if s.rxBusy = false then .refused .notReceiving
  else if s.rxN.toNat < Config.minFrame then
    .next (reportVerdict s (rxSyncFlag s) false (.error .frameTooShort))
  else
    match rxLenView s, rxTrailer s, rxOpcodeView s with
    | some len, some rxCrc, some opcode =>
      .next (reportVerdict s (rxSyncFlag s) (len.toNat == s.rxN.toNat - Config.minFrame)
        (endVerdict s len rxCrc opcode))
    | _, _, _ => .refused .noValue

/-- `DECODE expect, buf` (R168). -/
def execDecode (expect : Byte) (buf : List Byte) (s : State) : Result := decodeOp expect buf s

/-- `RX_START expect` (R170). -/
def execRxStart (expect : Byte) (s : State) : Result := rxStartOp expect s

/-- `RX_BYTE b` (R171, R174). -/
def execRxByte (b : Byte) (s : State) : Result := rxByteOp b s

/-- `RX_END` (R172). -/
def execRxEnd (s : State) : Result := rxEndOp s

/-- `RX_ABORT` (R173). -/
def execRxAbort (s : State) : Result := abortOp s

end Sys2Proof.Machine
end

