-- ==== Sys2Proof/Machine/Framer.lean ====
section
/-! DEFINITION. The framer (spec/41_framer.md): `encode`, the phases of a transmission, and the operations `ENCODE`,
`TX_START`, `TX_STEP`. -/

namespace Sys2Proof.Machine

/-! ## The function (R140) -/

/-- The CRC region of a frame: opcode, length, payload (R140); the payload is already truncated. -/
def frameCore (opcode : Byte) (p : List Byte) : List Byte :=
  opcode :: hi8 (BitVec.ofNat 16 p.length) :: lo8 (BitVec.ofNat 16 p.length) :: p

/-- `encode(opcode, payload)` (R140), on payloads of at most `PAYLOAD_MAX` bytes. -/
def encodeFrame (opcode : Byte) (payload : List Byte) : List Byte :=
  Config.syncHi :: Config.syncLo ::
    (frameCore opcode (truncate opcode payload) ++
      [hi8 (crcCompute (frameCore opcode (truncate opcode payload))),
       lo8 (crcCompute (frameCore opcode (truncate opcode payload)))])

/-! ## The phases of a transmission (R143) -/

/-- Where in the frame `TX_IDX` stands. -/
inductive TxPhase where
  | syncHi | syncLo | opcode | lenHi | lenLo | payload | crcHi | crcLo
  deriving DecidableEq, Repr

/-- The phase at `TX_IDX` = `i` with `TX_LEN` = `len` (R143, R145). -/
def txPhase (i len : Nat) : TxPhase :=
  if i = 0 then .syncHi
  else if i = 1 then .syncLo
  else if i = 2 then .opcode
  else if i = 3 then .lenHi
  else if i = 4 then .lenLo
  else if i = len + 5 then .crcHi
  else if i = len + 6 then .crcLo
  else .payload

/-- Whether the byte emitted in a phase is folded into `CRC` (R143). -/
def TxPhase.folds : TxPhase → Bool
  | .syncHi => false
  | .syncLo => false
  | .opcode => true
  | .lenHi => true
  | .lenLo => true
  | .payload => true
  | .crcHi => false
  | .crcLo => false

/-- The byte `TX_STEP` emits (R143, R145); `none` if it is a byte of `TXBUF` without a value, which no run reaches
(Log 13). -/
def txByte (s : State) : Option Byte :=
  match txPhase s.txIdx.toNat s.txLen.toNat with
  | .syncHi => some Config.syncHi
  | .syncLo => some Config.syncLo
  | .opcode => some s.txOpcode
  | .lenHi => some (hi8 s.txLen)
  | .lenLo => some (lo8 s.txLen)
  | .payload => readTxbuf s (s.txIdx.toNat - 5)
  | .crcHi => some (hi8 s.crc)
  | .crcLo => some (lo8 s.crc)

/-! ## The operations -/

/-- What `ENCODE` and `TX_START` both write first (R142, R144): `TRUNC`, `TX_OPCODE`, `TX_LEN`, `TXBUF`. -/
def loadFrame (s : State) (opcode : Byte) (payload : List Byte) : State :=
  { s with
    trunc := truncFlag opcode payload
    txOpcode := opcode
    txLen := BitVec.ofNat 16 (truncate opcode payload).length
    txbuf := Mem.ofBytes 0 (truncate opcode payload) }

/-- The state a whole `ENCODE` leaves (R142). -/
def sendWhole (s : State) (opcode : Byte) (payload : List Byte) : State :=
  emit
    { loadFrame s opcode payload with
      crc := trailer (encodeFrame opcode payload)
      txIdx := BitVec.ofNat 17 ((truncate opcode payload).length + 7)
      txBusy := false }
    (encodeFrame opcode payload)

/-- The state `TX_START` leaves (R144). -/
def sendStart (s : State) (opcode : Byte) (payload : List Byte) : State :=
  { loadFrame s opcode payload with crc := Config.seedInit, txIdx := 0#17, txBusy := true }

/-- The refusals `ENCODE` and `TX_START` share (R142, R144): busy, then a payload the length field cannot count. -/
def whenFramable (s : State) (payload : List Byte) (t : State) : Result :=
  whenIdle s (if Config.payloadMax < payload.length then .refused .payloadTooLong else .next t)

/-- The operation `ENCODE` (R142), for the instruction and for a level A transaction's request. -/
def encodeOp (opcode : Byte) (payload : List Byte) (s : State) : Result :=
  whenFramable s payload (sendWhole s opcode payload)

/-- The operation `TX_START` (R144), for the instruction and for a level B transaction's request. -/
def startOp (opcode : Byte) (payload : List Byte) (s : State) : Result :=
  whenFramable s payload (sendStart s opcode payload)

/-- `TX_STEP` once the byte is known (R145): fold it, emit it, advance, and end after the last byte. -/
def sendByte (s : State) (b : Byte) : State :=
  emit
    { s with
      crc := if (txPhase s.txIdx.toNat s.txLen.toNat).folds then crcUpdate s.crc b else s.crc
      txIdx := s.txIdx + 1#17
      txBusy := if s.txIdx.toNat + 1 = s.txLen.toNat + 7 then false else s.txBusy }
    [b]

/-- The operation `TX_STEP` (R145), for the instruction and for a level B transaction's request. -/
def stepOp (s : State) : Result :=
  if s.txBusy = false then .refused .notSending
  else
    match txByte s with
    | some b => .next (sendByte s b)
    | none => .refused .noValue

/-- `ENCODE opcode, payload` (R142). -/
def execEncode (opcode : Byte) (payload : List Byte) (s : State) : Result := encodeOp opcode payload s

/-- `TX_START opcode, payload` (R144). -/
def execTxStart (opcode : Byte) (payload : List Byte) (s : State) : Result := startOp opcode payload s

/-- `TX_STEP` (R145). -/
def execTxStep (s : State) : Result := stepOp s

end Sys2Proof.Machine
end

