-- ==== Sys2Proof/Machine/Session.lean ====
section
/-! DEFINITION. The host contract (spec/44_host_transport.md): the life of the Session (R211), one transaction of it
(R212 to R218) edge by edge, at level A in one instruction and at level B one operation a step (R227), and what the
Command Layer takes from the response (R220 to R224, spec/60_exceptions.md R252). The FRAME rows of the opcode table
run it (Log 4). -/

namespace Sys2Proof.Machine

/-! ## The Command Layer -/

/-- The Command Layer operation, opcode and payload of the transaction a frame or a pseudo frame runs (R190 to R195,
R220 to R224); `none` for an operation of the block. -/
def frameOf (i : Instr) : Option (Command × Byte × List Byte) :=
  match i with
  | .version => some (.readVersion, Config.opVersion, [])
  | .spiTransfer payload => some (.spiTransfer, Config.opSpiTransfer, payload)
  | .led payload => some (.setLed, Config.opLed, payload)
  | .readGpio => some (.readGpio, Config.opReadGpio, [])
  | .crcSeed _ => none
  | .crcUpdate _ => none
  | .crcCompute _ => none
  | .encode _ _ => none
  | .decode _ _ => none
  | .rxAbort => none
  | .txStart _ _ => none
  | .txStep => none
  | .rxStart _ => none
  | .rxByte _ => none
  | .rxEnd => none
  | .crcInit => none
  | .readRegister r => some (.readRegister, Config.opSpiTransfer, [r, 0x00#8])
  | .ledOn => some (.setLed, Config.opLed, [0x01#8])
  | .ledOff => some (.setLed, Config.opLed, [0x00#8])

/-- The expected response length `E` (R196, R216), from the `TX_LEN` of the request just built; for LED the length
of the frame just sent (D26, Log 20). -/
def Command.expectLen (c : Command) (txLen : Nat) : Nat :=
  match c with
  | .readVersion => Config.versionResponse
  | .setLed => txLen + 7
  | .readGpio => Config.gpioResponse
  | .spiTransfer => txLen + 7
  | .readRegister => txLen + 7

/-- `RXBUF[0 : RX_N]`, the raw buffer (R175). -/
def rawBuffer (s : State) : Option (List Byte) := readRxSlice s 0 s.rxN.toNat

/-- `RXBUF[5 : 5 + RX_PLEN]`, the delivered payload (R28, R218). -/
def deliveredBytes (s : State) : Option (List Byte) := readRxSlice s 5 s.rxPlen.toNat

/-- `RXBUF[5 : RX_N - 2]`, the whole body (R192). -/
def bodyBytes (s : State) : Option (List Byte) := readRxSlice s 5 (s.rxN.toNat - Config.minFrame)

/-- What `spi_transfer` returns on `Complete` (R223): the payload; where the length field disagrees with the size,
which of payload and body is open (90_conflicts.md C10, Log 8). -/
def spiReturned (s : State) : Option (List Byte) :=
  match deliveredBytes s, bodyBytes s with
  | some p, some body => some (if s.lenOk then p else if Config.spiReturnsBody then body else p)
  | _, _ => none

/-- What a Command Layer operation that sent the frame `sent` returns on `Complete` (R220 to R224); `none` if a byte it
reads has no value, which no transaction reaches (Log 13). `read_register` takes buffer byte 6 (R195). -/
def Command.onComplete (c : Command) (sent : List Byte) (s : State) : Option CommandResult :=
  match c with
  | .readVersion =>
    match rawBuffer s with
    | some raw => some (.versionText (Config.versionText raw))
    | none => none
  | .setLed =>
    some (.ledEcho (s.rxDone && (s.err == 0#3 && rawBuffer s == some sent)))
  | .readGpio =>
    match readRxbuf s 5, readRxbuf s 6 with
    | some dio0, some dio5 => some (.gpioState dio0 dio5)
    | _, _ => none
  | .spiTransfer =>
    match spiReturned s with
    | some data => some (.spiData data)
    | none => none
  | .readRegister =>
    match readRxbuf s 6 with
    | some b => some (.registerValue b)
    | none => none

/-- What a Command Layer operation gives its caller on an error kind (R252). -/
def Command.onError (c : Command) (k : ErrorKind) : CommandResult :=
  match c with
  | .readVersion => if k = .opcodeMismatch then .versionText "unknown" else .failure k
  | .setLed => .ledEcho false
  | .readGpio => .failure k
  | .spiTransfer => .failure k
  | .readRegister => .failure k

/-! ## The life of the Session (R211; Log 16, Log 21) -/

/-- "Created once at connect time" (R211), in state `Idle`. DESIGN CHOICE (Log 21): what is buffered on the stream stays,
for the first drain. -/
def connectOp (s : State) : Result :=
  match s.session with
  | none => .next (setTxn s none)
  | some _ => .refused .sessionOpen

/-- "destroyed at explicit close" (R211), which involves no operation of the block (R228). DESIGN CHOICE (Log 21): the
spec does not say what becomes of the bytes buffered on the stream's input side; the model keeps them. -/
def closeOp (s : State) : Result :=
  match s.session with
  | none => .refused .noSession
  | some _ => .next { s with session := none }

/-! ## The edges of a transaction (R212) -/

/-- Go on from a next state; a refusal refuses the whole. -/
def andThen (r : Result) (f : State → Result) : Result :=
  match r with
  | .next t => f t
  | .fault e => .fault e
  | .refused e => .refused e

/-- A transaction as it is constructed, in `Draining` (R211, R212): the expected opcode is the one sent (R190). -/
def newTxn (c : Command) (opcode : Byte) (payload : List Byte) : Txn :=
  { command := c, expectOp := opcode, payload := payload, stage := .draining, sent := [], expectLen := 0 }

/-- `Idle → Draining` (R211, R212): in a Session, with no other transaction in flight, and with a block that will
accept the request's `ENCODE` or `TX_START` (R257). -/
def txnBegin (c : Command) (opcode : Byte) (payload : List Byte) (s : State) : Result :=
  match s.session with
  | none => .refused .noSession
  | some x =>
    match x.txn with
    | some _ => .refused .sessionBusy
    | none => whenFramable s payload (setTxn s (some (newTxn c opcode payload)))

/-- The drain and `Draining → Sending` (R213): what is buffered is discarded; no register of the block changes. -/
def txnDrain (t : Txn) (s : State) : State :=
  setTxn { s with stream := s.stream.drained } (some { t with stage := .sending })

/-- The last `n` bytes emitted (R227). -/
def lastEmitted (s : State) (n : Nat) : List Byte := s.txout.drop (s.txout.length - n)

/-- `Sending → AwaitingResponse` for the transaction (R214, R216, R227): the frame just sent is noted, and `E` is
fixed. -/
def sentTxn (t : Txn) (s : State) : Txn :=
  { t with
    stage := .awaitingResponse
    sent := lastEmitted s (s.txLen.toNat + 7)
    expectLen := t.command.expectLen s.txLen.toNat }

/-- A read begins (R215). -/
def readOpen (s : State) : State := { s with stream := s.stream.opened }

/-- `Sending → AwaitingResponse` (R214, R215): the whole frame has been sent, and the read begins. From here on the answer
is in flight: what a reset leaves of it unread waits for the next drain (R284). -/
def awaitResponse (t : Txn) (s : State) : State := setTxn (readOpen s) (some (sentTxn t s))

/-- The first `n` bytes are taken from the stream (R215). -/
def readTake (n : Nat) (s : State) : State := { s with stream := s.stream.taken n }

/-- The read has ended (R215). -/
def readClose (s : State) : State := { s with stream := s.stream.closed }

/-- The transaction has failed (R218): what the caller gets for the kind. -/
def txnFail (t : Txn) (k : ErrorKind) (s : State) : State :=
  setTxn { s with results := s.results ++ [t.command.onError k] } (some { t with stage := .failed })

/-- The transaction is complete (R218), with this result. -/
def txnComplete (t : Txn) (r : CommandResult) (s : State) : State :=
  setTxn { s with results := s.results ++ [r] } (some { t with stage := .complete })

/-- `AwaitingResponse → Validating` (R217). -/
def txnValidate (t : Txn) (s : State) : State := setTxn s (some { t with stage := .validating })

/-- `AwaitingResponse → Failed` (R217): the deframer is returned to idle and the Timeout is reported. -/
def txnTimeout (t : Txn) (s : State) : Result :=
  andThen (abortOp s) fun u => .next (txnFail t .timeout u)

/-- The decode has ended (R218): `Validating → Complete` or `Validating → Failed`, by `ERR`. -/
def txnConclude (t : Txn) (s : State) : Result :=
  match ErrorKind.ofCode s.err with
  | some k => .next (txnFail t k s)
  | none =>
    match t.command.onComplete t.sent s with
    | some r => .next (txnComplete t r s)
    | none => .refused .noValue

/-- The transaction is discarded, and the Session is `Idle` again for the next one (R211, R212). -/
def txnEnd (s : State) : State := setTxn s none

/-! ## A transaction at level A, in one instruction -/

/-- `AwaitingResponse` and `Validating` at level A (R215, R217, R227): `read_upto(E, T_TIMEOUT)`, then `RX_ABORT` on a
short read, whose bytes are dropped, or `DECODE` of the `E` bytes. -/
def txnReceive (t : Txn) (s : State) : Result :=
  if s.stream.buffered.length < t.expectLen then txnTimeout t (readClose (readTake t.expectLen s))
  else
    andThen (decodeOp t.expectOp (s.stream.buffered.take t.expectLen)
        (txnValidate t (readClose (readTake t.expectLen s)))) (txnConclude t)

/-- `Sending` at level A (R214, R227): `ENCODE`, then `AwaitingResponse`. -/
def txnSend (t : Txn) (s : State) : Result :=
  andThen (encodeOp t.expectOp t.payload s) fun u => txnReceive (sentTxn t u) (awaitResponse t u)

/-- One whole transaction at level A (R227): drain, `ENCODE`, read, then `RX_ABORT` or `DECODE`; the Session is `Idle`
after it. -/
def transact (c : Command) (opcode : Byte) (payload : List Byte) (s : State) : Result :=
  andThen (txnBegin c opcode payload s) fun u =>
    andThen (txnSend (newTxn c opcode payload) (txnDrain (newTxn c opcode payload) u)) fun v => .next (txnEnd v)

/-! ## A transaction at level B, one operation or edge a step -/

/-- Start the transaction of a frame or pseudo frame at level B; its steps follow (R227). -/
def levelBOp (i : Instr) (s : State) : Result :=
  match frameOf i with
  | some (c, opcode, payload) => txnBegin c opcode payload s
  | none => .refused (.undecodable .notAFrame)

/-- A step in `Sending` at level B (R214, R227): `TX_START`, then `TX_STEP`s; the one that ends the frame leads to
`AwaitingResponse`. -/
def sendStep (t : Txn) (s : State) : Result :=
  if s.txBusy then
    andThen (stepOp s) fun u => .next (if u.txBusy then u else awaitResponse t u)
  else startOp t.expectOp t.payload s

/-- A step in `AwaitingResponse` at level B (R215, R217, R227): `RX_START`, then one `RX_BYTE` per byte as it arrives;
with `E` bytes read on to `Validating`, and when no byte is left before the deadline `RX_ABORT` and Timeout. -/
def receiveStep (t : Txn) (s : State) : Result :=
  if s.rxBusy then
    if t.expectLen ≤ s.rxN.toNat then .next (txnValidate t (readClose s))
    else
      match s.stream.buffered with
      | b :: _ => rxByteOp b (readTake 1 s)
      | [] => txnTimeout t (readClose s)
  else rxStartOp t.expectOp s

/-- The next step of the transaction in flight at level B (R212, R227). -/
def txnAdvance (t : Txn) (s : State) : Result :=
  match t.stage with
  | .draining => .next (txnDrain t s)
  | .sending => sendStep t s
  | .awaitingResponse => receiveStep t s
  | .validating => andThen (rxEndOp s) (txnConclude t)
  | .complete => .next (txnEnd s)
  | .failed => .next (txnEnd s)

end Sys2Proof.Machine
end

