-- ==== Sys2Proof/Machine/Frames.lean ====
section
/-! DEFINITION. The four frames and their pseudo rows (spec/43_frame_opcodes.md): each is one transaction, with the
request, the expected response and the extraction its rule gives (R190; Log 4). -/

namespace Sys2Proof.Machine

/-- `VERSION` (R191, R220): empty payload, 24 bytes expected. -/
def execVersion (s : State) : Result := transact .readVersion Config.opVersion [] s

/-- `SPI_TRANSFER` (R192, R223): the payload cut to 1024 bytes, a response of the request's size. -/
def execSpiTransfer (payload : List Byte) (s : State) : Result :=
  transact .spiTransfer Config.opSpiTransfer payload s

/-- `LED` (R193, R221): an exact echo of the sent frame is success. -/
def execLed (payload : List Byte) (s : State) : Result := transact .setLed Config.opLed payload s

/-- `READ_GPIO` (R194, R222): empty payload, 9 bytes expected, the state bytes at offsets 5 and 6. -/
def execReadGpio (s : State) : Result := transact .readGpio Config.opReadGpio [] s

/-- `READ_REGISTER r` (R195, R224): `SPI_TRANSFER [r, 00]`, returning the second response byte. -/
def execReadRegister (r : Byte) (s : State) : Result :=
  transact .readRegister Config.opSpiTransfer [r, 0x00#8] s

/-- `LED on` (R193, R107): `LED [01]`. -/
def execLedOn (s : State) : Result := transact .setLed Config.opLed [0x01#8] s

/-- `LED off` (R193, R107): `LED [00]`. -/
def execLedOff (s : State) : Result := transact .setLed Config.opLed [0x00#8] s

end Sys2Proof.Machine
end

