-- ==== Sys2Proof/Machine/Dispatch.lean ====
section
/-! DEFINITION. The meaning of every instruction: one arm per constructor of Instr. -/

namespace Sys2Proof.Machine

def exec (i : Instr) (s : State) : Host.Outcome State Fault Refusal :=
  match i with
  | .version => Sys2Proof.Machine.execVersion s
  | .spiTransfer payload => Sys2Proof.Machine.execSpiTransfer payload s
  | .led payload => Sys2Proof.Machine.execLed payload s
  | .readGpio => Sys2Proof.Machine.execReadGpio s
  | .crcSeed v => Sys2Proof.Machine.execCrcSeed v s
  | .crcUpdate b => Sys2Proof.Machine.execCrcUpdate b s
  | .crcCompute buf => Sys2Proof.Machine.execCrcCompute buf s
  | .encode opcode payload => Sys2Proof.Machine.execEncode opcode payload s
  | .decode expect buf => Sys2Proof.Machine.execDecode expect buf s
  | .rxAbort => Sys2Proof.Machine.execRxAbort s
  | .txStart opcode payload => Sys2Proof.Machine.execTxStart opcode payload s
  | .txStep => Sys2Proof.Machine.execTxStep s
  | .rxStart expect => Sys2Proof.Machine.execRxStart expect s
  | .rxByte b => Sys2Proof.Machine.execRxByte b s
  | .rxEnd => Sys2Proof.Machine.execRxEnd s
  | .crcInit => Sys2Proof.Machine.execCrcInit s
  | .readRegister r => Sys2Proof.Machine.execReadRegister r s
  | .ledOn => Sys2Proof.Machine.execLedOn s
  | .ledOff => Sys2Proof.Machine.execLedOff s

end Sys2Proof.Machine
end

