-- ==== Sys2Proof/Machine/Run.lean ====
section
/-! DEFINITION. What the host does, one action at a time, and runs of it (spec/44_host_transport.md R211, R227, R228). -/

namespace Sys2Proof.Machine

/-- Run a request: decode it, then the meaning of the instruction. A request that is no instruction is refused by name
(R104, R197). -/
def runRequest (r : Request) (s : State) : Result :=
  match decodeRequest r with
  | .ok i => exec i s
  | .error why => .refused (.undecodable why)

/-- The host's action at the state left once it is taken (Log 2). -/
def runAction (a : HostAction) (s : State) : Result :=
  match a with
  | .issue r => runRequest r s
  | .levelB i => levelBOp i s
  | .connect => connectOp s
  | .close => closeOp s

/-- Between two transactions: the host's next action, or idle (R228, R256). -/
def hostStep (s : State) : Result :=
  match nextAction s with
  | none => .next s
  | some (a, u) => runAction a u

/-- A run of the host: operations in issue order, up to the first that is refused (R228). -/
def run (ops : List Instr) (s : State) : Result :=
  match ops with
  | [] => .next s
  | i :: rest => andThen (exec i s) (run rest)

end Sys2Proof.Machine
end

