-- ==== Sys2Proof/Machine/Step.lean ====
section
/-! DEFINITION. One step of the machine: the reset input, else the transaction in flight, else the host's next action,
else idle (R228, R256, R280; Log 2, Log 3). -/

namespace Sys2Proof.Machine

/-- One step. -/
def step (s : State) : Host.Outcome State Fault Refusal :=
  if s.resetInput then .next (assertReset s)
  else
    match s.txn with
    | some t => txnAdvance t s
    | none => hostStep s

/-- `n` steps one after the other. -/
def stepN (n : Nat) (s : State) : Result :=
  match n with
  | 0 => .next s
  | n + 1 => andThen (step s) (stepN n)

/-- `s` with one instruction, the `nbits` bits of the table word `w` and zeros above them, as the host's next action in
a connected, idle Session; what the host has still to do follows it. -/
def State.withFetchWord (s : State) (nbits w : Nat) : State :=
  { s with
    session := some Session.idle
    actions := .issue (tableRequest nbits w) :: s.actions
    resetInput := false }

end Sys2Proof.Machine
end

