-- ==== Sys2Proof/Safety.lean ====
section
/-! DEFINITION. What the claims speak of: the idle block, the invariant of the block and of a transaction in flight, the
edges of a transaction, which operations a state accepts (spec/60_exceptions.md R257), and the single-bit flip of
spec/42_deframer.md R178. -/

namespace Sys2Proof.Machine

/-- No run is in progress (R25, R29). -/
abbrev Idle (s : State) : Prop := s.txBusy = false ∧ s.rxBusy = false

/-- The Session is connected and `Idle` (R211, R212). -/
abbrev Rests (s : State) : Prop := s.session = some Session.idle

/-- The frame being sent, without sync and trailer, as the registers hold it (R140, R143). -/
def sentCore (s : State) : List Byte := frameCore s.txOpcode s.txbuf.bytes

/-- What holds of the block at reset and after every step. -/
structure BlockInv (s : State) : Prop where
  /-- `TX_BUSY` and `RX_BUSY` are never both 1 (R36). -/
  exclusive : s.txBusy = false ∨ s.rxBusy = false
  /-- `ERR` is never 4 to 7 (R31, R246). -/
  errLegal : s.err.toNat ≤ 3
  /-- Bytes 0 to `TX_LEN - 1` of `TXBUF` are defined, and no other (R38). -/
  txbufDefined : s.txbuf.map Prod.fst = List.range s.txLen.toNat
  /-- Bytes 0 to `RX_N - 1` of `RXBUF` are defined, and no other (R39). -/
  rxbufDefined : s.rxbuf.map Prod.fst = List.range s.rxN.toNat
  /-- `RX_N` is at most `RX_MAX` (R27). -/
  rxBounded : s.rxN.toNat ≤ Config.rxMax
  /-- For opcode 0x01, `TX_LEN` is at most 1024 (R23). -/
  spiBounded : s.txOpcode = Config.opSpiTransfer → s.txLen.toNat ≤ Config.spiMax
  /-- `TX_IDX` is at most `TX_LEN + 7` (R24). -/
  idxBounded : s.txIdx.toNat ≤ s.txLen.toNat + 7
  /-- While sending, a byte of the frame is still to be emitted (R24, R25). -/
  sendingInside : s.txBusy = true → s.txIdx.toNat < s.txLen.toNat + 7
  /-- While sending, `CRC` is that of the bytes from offset 2 emitted so far (R143, R145). -/
  sendingCrc : s.txBusy = true → s.crc = crcCompute ((sentCore s).take (s.txIdx.toNat - 2))
  /-- While receiving, there is no verdict (R35). -/
  receivingOpen : s.rxBusy = true → s.rxDone = false
  /-- While receiving, `CRC` runs two bytes behind the input (R169, R171). -/
  receivingCrc : s.rxBusy = true → s.crc = receivedCrc s.rxbuf.bytes
  /-- Without a verdict, the receive flags and `RX_PLEN` are clear (R31 to R35, R28). -/
  noVerdict : s.rxDone = false → s.err = 0#3 ∧ s.syncOk = false ∧ s.lenOk = false ∧ s.rxPlen = 0#16
  /-- Idle and without a verdict, there is no buffer (R43, R173). -/
  noBuffer : s.rxBusy = false → s.rxDone = false → s.rxN = 0#17
  /-- `RX_DONE` = 1: the verdict, the flags and the payload are those of the buffer in `RXBUF` (R35). -/
  verdict : s.rxDone = true →
    s.err = verdictErr (verdictOf (decodeAndValidate s.rxbuf.bytes s.rxExpect)) ∧
    s.rxPlen = verdictLen (verdictOf (decodeAndValidate s.rxbuf.bytes s.rxExpect)) ∧
    s.syncOk = syncFlag s.rxbuf.bytes ∧ s.lenOk = lenFlag s.rxbuf.bytes

/-- What holds of the block and of the counts while a transaction is in flight, state by state: the table of R212, with
`E` at least 7 (R196), never more than `E` bytes read (R215), and the expected opcode the one sent (R190). -/
def TxnInv (t : Txn) (s : State) : Prop :=
  match t.stage with
  | .draining => Idle s ∧ payloadInRange t.payload
  | .sending => s.rxBusy = false ∧ payloadInRange t.payload
  | .awaitingResponse =>
    s.txBusy = false ∧ 7 ≤ t.expectLen ∧ t.expectLen ≤ Config.rxMax ∧
      (s.rxBusy = true → s.rxN.toNat ≤ t.expectLen ∧ s.rxExpect = t.expectOp)
  | .validating =>
    s.txBusy = false ∧ s.rxBusy = true ∧ 7 ≤ t.expectLen ∧ s.rxN.toNat = t.expectLen ∧ s.rxExpect = t.expectOp
  | .complete => Idle s ∧ s.rxDone = true ∧ s.err = 0#3
  | .failed => Idle s ∧ (s.rxDone = true → s.err ≠ 0#3)

/-- What holds of the machine at reset and after every step: the block's invariant, and the transaction's while one is
in flight. -/
structure Inv (s : State) : Prop extends BlockInv s where
  inFlight : ∀ t : Txn, s.txn = some t → TxnInv t s

/-- The edges of R212, with the timeout edge of R217; `none` is `Idle`. At level B a transaction also stays in `Sending`
and in `AwaitingResponse` from one operation to the next. -/
def edge (a : Stage) (b : Option Stage) : Prop :=
  match a with
  | .draining => b = some .sending
  | .sending => b = some .sending ∨ b = some .awaitingResponse
  | .awaitingResponse => b = some .awaitingResponse ∨ b = some .validating ∨ b = some .failed
  | .validating => b = some .complete ∨ b = some .failed
  | .complete => b = none
  | .failed => b = none

/-- The operations a state accepts: everything that R257 does not refuse, a frame in a Session that is `Idle` (R211). -/
def accepts (s : State) (i : Instr) : Prop :=
  match i with
  | .version => Idle s ∧ Rests s
  | .spiTransfer payload => Idle s ∧ Rests s ∧ payloadInRange payload
  | .led payload => Idle s ∧ Rests s ∧ payloadInRange payload
  | .readGpio => Idle s ∧ Rests s
  | .crcSeed _ => Idle s
  | .crcUpdate _ => Idle s
  | .crcCompute _ => Idle s
  | .encode _ payload => Idle s ∧ payloadInRange payload
  | .decode _ buf => Idle s ∧ bufferInRange buf
  | .rxAbort => s.txBusy = false
  | .txStart _ payload => Idle s ∧ payloadInRange payload
  | .txStep => s.txBusy = true
  | .rxStart _ => Idle s
  | .rxByte _ => s.rxBusy = true ∧ s.rxN.toNat < Config.rxMax
  | .rxEnd => s.rxBusy = true
  | .crcInit => Idle s
  | .readRegister _ => Idle s ∧ Rests s
  | .ledOn => Idle s ∧ Rests s
  | .ledOff => Idle s ∧ Rests s

/-- The buffer with bit `j` of byte `i` flipped (R178). -/
def flipBit (buf : List Byte) (i j : Nat) : List Byte :=
  buf.set i (byteAt buf i ^^^ (1#8 <<< j))

end Sys2Proof.Machine
end

