-- ==== Sys2Proof/Certificates/Slice0/Obligations.lean ====
section
/-! DEFINITION. The statements for the provers. Each docstring names the rule of spec/ it formalises, or what it
rests on. -/

open Sys2Proof Sys2Proof.Machine

/-! ## The CRC engine -/

/-- R123: `CRC_SEED v` writes `CRC` and nothing else; refused while busy. -/
def Obligations.CrcSeedWritesOnlyCrc : Prop :=
  OpName.crcSeed.code = 0x0#4 ∧
  (∀ (v : Word) (s : State), Idle s → exec (.crcSeed v) s = .next { s with crc := v }) ∧
  (∀ (v : Word) (s : State), ¬ Idle s → exec (.crcSeed v) s = .refused .busy) ∧
  (∀ s : State, Idle s → run [.crcSeed 0x1234#16, .crcUpdate 0x56#8] s = .next { s with crc := 0x3C40#16 })

/-- R124: `CRC_UPDATE b` folds one byte into whatever `CRC` holds and writes nothing else; refused while busy. -/
def Obligations.CrcUpdateFoldsOneByte : Prop :=
  OpName.crcUpdate.code = 0x1#4 ∧
  (∀ (b : Byte) (s : State), Idle s → exec (.crcUpdate b) s = .next { s with crc := crcUpdate s.crc b }) ∧
  (∀ (b : Byte) (s : State), ¬ Idle s → exec (.crcUpdate b) s = .refused .busy) ∧
  (∀ s : State, Idle s → s.crc = 0xFFFF#16 → exec (.crcUpdate 0x00#8) s = .next { s with crc := 0xE1F0#16 }) ∧
  (∀ s : State, Idle s → s.crc = 0xFFFF#16 → exec (.crcUpdate 0x31#8) s = .next { s with crc := 0xC782#16 })

/-- R125: `CRC_COMPUTE buf` leaves `crc_compute(buf)`, whatever `CRC` held, and equals `CRC_INIT` followed by one
`CRC_UPDATE` per byte; refused while busy. -/
def Obligations.CrcComputeFoldsTheBuffer : Prop :=
  OpName.crcCompute.code = 0x2#4 ∧
  (∀ (buf : List Byte) (s : State), Idle s → exec (.crcCompute buf) s = .next { s with crc := crcCompute buf }) ∧
  (∀ (buf : List Byte) (s : State), ¬ Idle s → exec (.crcCompute buf) s = .refused .busy) ∧
  (∀ (buf : List Byte) (s : State), Idle s →
    run (.crcInit :: buf.map Instr.crcUpdate) s = exec (.crcCompute buf) s) ∧
  crcCompute [] = 0xFFFF#16 ∧ crcCompute [0xFF#8, 0xFF#8] = 0x0000#16 ∧
  crcCompute [0x31#8, 0x32#8, 0x33#8, 0x34#8, 0x35#8, 0x36#8, 0x37#8, 0x38#8, 0x39#8] = 0x29B1#16

/-- R126: `CRC_INIT` is `CRC_SEED 0xFFFF` and has no code of its own; after any history it leaves 0xFFFF. -/
def Obligations.CrcInitIsASeed : Prop :=
  Instr.crcInit.expand = .crcSeed 0xFFFF#16 ∧
  encodeRequest .crcInit = encodeRequest (.crcSeed 0xFFFF#16) ∧
  (∀ s : State, exec .crcInit s = exec (.crcSeed 0xFFFF#16) s) ∧
  (∀ s : State, Idle s → exec .crcInit s = .next { s with crc := 0xFFFF#16 })

/-- R121: the step, with the mask on the shifted seed and, alike, on the whole (90_conflicts.md C6). -/
def Obligations.CrcUpdateFormula : Prop :=
  ∀ (seed : Word) (b : Byte),
    crcUpdate seed b =
      tableEntry ((seed >>> 8).setWidth 8 ^^^ b) ^^^ (((seed.setWidth 24) <<< 8) &&& 0x00FFFF#24).setWidth 16 ∧
    (crcUpdate seed b).setWidth 24 =
      ((tableEntry ((seed >>> 8).setWidth 8 ^^^ b)).setWidth 24 ^^^ ((seed.setWidth 24) <<< 8)) &&& 0x00FFFF#24

/-- From R120 and R129: the 256 listed entries are those the generator 0x1021 gives. -/
def Obligations.TableFollowsTheGenerator : Prop :=
  crcTable.length = 256 ∧ ∀ i : Byte, tableEntry i = tableFormula i

/-- From R129: the spot checks of the table. -/
def Obligations.TableSpotChecks : Prop :=
  crcTable.Nodup ∧ crcTable.foldl (· ^^^ ·) 0x0000#16 = 0x0000#16 ∧
  tableEntry 0x01#8 = 0x1021#16 ∧ tableEntry 0x02#8 = 0x2042#16 ∧ tableEntry 0x04#8 = 0x4084#16 ∧
  tableEntry 0x08#8 = 0x8108#16 ∧ tableEntry 0x10#8 = 0x1231#16 ∧ tableEntry 0x20#8 = 0x2462#16 ∧
  tableEntry 0x40#8 = 0x48C4#16 ∧ tableEntry 0x80#8 = 0x9188#16 ∧ tableEntry 0xFF#8 = 0x1EF0#16

/-- From R128 (e): the table is linear over exclusive-or. -/
def Obligations.TableIsLinear : Prop :=
  ∀ a b : Byte, tableEntry (a ^^^ b) = tableEntry a ^^^ tableEntry b

/-- R122: the fold over the bytes, first byte first, from 0xFFFF; the empty buffer gives 0xFFFF. -/
def Obligations.CrcComputeIsTheFold : Prop :=
  (∀ buf : List Byte, crcCompute buf = buf.foldl crcUpdate 0xFFFF#16) ∧ crcCompute [] = 0xFFFF#16

/-- From R128 (b): computing over a concatenation is folding the second part from the first part's CRC. -/
def Obligations.CrcComposes : Prop :=
  ∀ x y : List Byte, crcCompute (x ++ y) = y.foldl crcUpdate (crcCompute x)

/-- From R128 (d): a buffer followed by its own CRC, high byte first, has CRC 0x0000. -/
def Obligations.CrcResidueIsZero : Prop :=
  ∀ m : List Byte, crcCompute (m ++ [hi8 (crcCompute m), lo8 (crcCompute m)]) = 0x0000#16

/-! ## The framer -/

/-- R140: the frame of an opcode and a payload, byte by byte; its length field counts the payload and its CRC is
that of the region the deframer recomputes. -/
def Obligations.EncodedFrameLayout : Prop :=
  ∀ (opcode : Byte) (payload : List Byte), payload.length ≤ 65535 →
    encodeFrame opcode payload =
      [0xAB#8, 0xCD#8] ++
        ([opcode, hi8 (BitVec.ofNat 16 (truncate opcode payload).length),
          lo8 (BitVec.ofNat 16 (truncate opcode payload).length)] ++ truncate opcode payload) ++
        [hi8 (crcCompute ([opcode, hi8 (BitVec.ofNat 16 (truncate opcode payload).length),
          lo8 (BitVec.ofNat 16 (truncate opcode payload).length)] ++ truncate opcode payload)),
         lo8 (crcCompute ([opcode, hi8 (BitVec.ofNat 16 (truncate opcode payload).length),
          lo8 (BitVec.ofNat 16 (truncate opcode payload).length)] ++ truncate opcode payload))] ∧
    (lengthField (encodeFrame opcode payload)).toNat = (encodeFrame opcode payload).length - 7 ∧
    (encodeFrame opcode payload).length = (truncate opcode payload).length + 7 ∧
    crcCompute (crcRegion (encodeFrame opcode payload)) = trailer (encodeFrame opcode payload)

/-- R141: only opcode 0x01 is cut, to its first 1024 bytes; exactly 1024 bytes are not cut; a cut frame has 1031
bytes and is the frame of the first 1024; the framer reports a cut through `TRUNC` alone. -/
def Obligations.TruncationKeepsTheFirst1024 : Prop :=
  (∀ payload : List Byte, 1024 < payload.length →
    truncate 0x01#8 payload = payload.take 1024 ∧ (encodeFrame 0x01#8 payload).length = 1031 ∧
      encodeFrame 0x01#8 payload = encodeFrame 0x01#8 (payload.take 1024)) ∧
  (∀ payload : List Byte, payload.length ≤ 1024 → truncate 0x01#8 payload = payload) ∧
  (∀ (opcode : Byte) (payload : List Byte), opcode ≠ 0x01#8 → truncate opcode payload = payload) ∧
  (∀ (opcode : Byte) (payload : List Byte) (s t : State), exec (.encode opcode payload) s = .next t →
    t.err = s.err ∧ (t.trunc = true ↔ opcode = 0x01#8 ∧ 1024 < payload.length))

/-- R142: what `ENCODE` leaves, everything else untouched; refused while busy, then for a payload over 65535. -/
def Obligations.EncodeSendsTheWholeFrame : Prop :=
  OpName.encode.code = 0x3#4 ∧
  (∀ (opcode : Byte) (payload : List Byte) (s : State), Idle s → payload.length ≤ 65535 →
    exec (.encode opcode payload) s = .next
      { s with
        trunc := decide (opcode = 0x01#8 ∧ 1024 < payload.length)
        txOpcode := opcode
        txLen := BitVec.ofNat 16 (truncate opcode payload).length
        txbuf := Mem.ofBytes 0 (truncate opcode payload)
        crc := be16 ((encodeFrame opcode payload).getD ((encodeFrame opcode payload).length - 2) 0x00#8)
          ((encodeFrame opcode payload).getD ((encodeFrame opcode payload).length - 1) 0x00#8)
        txout := s.txout ++ encodeFrame opcode payload
        txIdx := BitVec.ofNat 17 ((truncate opcode payload).length + 7)
        txBusy := false }) ∧
  (∀ (opcode : Byte) (payload : List Byte) (s : State), ¬ Idle s →
    exec (.encode opcode payload) s = .refused .busy) ∧
  (∀ (opcode : Byte) (payload : List Byte) (s : State), Idle s → 65535 < payload.length →
    exec (.encode opcode payload) s = .refused .payloadTooLong) ∧
  (∀ s : State, Idle s → ∃ t, exec (.encode 0x02#8 [0x01#8]) s = .next t ∧
    t.txout = s.txout ++ [0xAB#8, 0xCD#8, 0x02#8, 0x00#8, 0x01#8, 0x01#8, 0x4A#8, 0xB8#8] ∧
    t.txOpcode = 0x02#8 ∧ t.txLen = 1#16 ∧ t.txIdx = 8#17 ∧ t.crc = 0x4AB8#16 ∧ t.trunc = false)

/-- R144: what `TX_START` leaves, everything else untouched; it emits nothing; refused as `ENCODE` is. -/
def Obligations.TxStartLoadsTheFrame : Prop :=
  OpName.txStart.code = 0x8#4 ∧
  (∀ (opcode : Byte) (payload : List Byte) (s : State), Idle s → payload.length ≤ 65535 →
    exec (.txStart opcode payload) s = .next
      { s with
        trunc := decide (opcode = 0x01#8 ∧ 1024 < payload.length)
        txOpcode := opcode
        txLen := BitVec.ofNat 16 (truncate opcode payload).length
        txbuf := Mem.ofBytes 0 (truncate opcode payload)
        crc := 0xFFFF#16
        txIdx := 0#17
        txBusy := true }) ∧
  (∀ (opcode : Byte) (payload : List Byte) (s : State), ¬ Idle s →
    exec (.txStart opcode payload) s = .refused .busy) ∧
  (∀ (opcode : Byte) (payload : List Byte) (s : State), Idle s → 65535 < payload.length →
    exec (.txStart opcode payload) s = .refused .payloadTooLong)

/-- R145: the byte `TX_STEP` emits at each index, what it folds, and when it ends; refused while not sending; at index
`TX_LEN + 5` `CRC` holds the CRC of the whole region. The payload byte `v` is asked for only at payload indices. -/
def Obligations.TxStepEmitsOneByte : Prop :=
  OpName.txStep.code = 0x9#4 ∧
  (∀ (s : State) (v : Byte), s.txBusy = true → s.txIdx.toNat < s.txLen.toNat + 7 →
    (5 ≤ s.txIdx.toNat → s.txIdx.toNat ≤ s.txLen.toNat + 4 → readTxbuf s (s.txIdx.toNat - 5) = some v) →
    ∀ b : Byte, b =
      (if s.txIdx.toNat = 0 then 0xAB#8
       else if s.txIdx.toNat = 1 then 0xCD#8
       else if s.txIdx.toNat = 2 then s.txOpcode
       else if s.txIdx.toNat = 3 then hi8 s.txLen
       else if s.txIdx.toNat = 4 then lo8 s.txLen
       else if s.txIdx.toNat = s.txLen.toNat + 5 then hi8 s.crc
       else if s.txIdx.toNat = s.txLen.toNat + 6 then lo8 s.crc
       else v) →
    exec .txStep s = .next
      { s with
        crc := if 2 ≤ s.txIdx.toNat ∧ s.txIdx.toNat ≤ s.txLen.toNat + 4 then crcUpdate s.crc b else s.crc
        txout := s.txout ++ [b]
        txIdx := s.txIdx + 1#17
        txBusy := decide (s.txIdx.toNat + 1 ≠ s.txLen.toNat + 7) }) ∧
  (∀ s : State, s.txBusy = false → exec .txStep s = .refused .notSending) ∧
  (∀ (opcode : Byte) (payload : List Byte) (s : State), Idle s → payload.length ≤ 65535 →
    ∃ t, run (.txStart opcode payload :: List.replicate ((truncate opcode payload).length + 5) .txStep) s = .next t ∧
      t.txBusy = true ∧ t.txIdx.toNat = t.txLen.toNat + 5 ∧
      t.crc = crcCompute ([opcode, hi8 (BitVec.ofNat 16 (truncate opcode payload).length),
        lo8 (BitVec.ofNat 16 (truncate opcode payload).length)] ++ truncate opcode payload)) ∧
  (∀ (s : State) (k : Nat), Idle s → k ≤ 8 →
    ∃ t, run (.txStart 0x02#8 [0x01#8] :: List.replicate k .txStep) s = .next t ∧
      t.txout = s.txout ++ [0xAB#8, 0xCD#8, 0x02#8, 0x00#8, 0x01#8, 0x01#8, 0x4A#8, 0xB8#8].take k ∧
      t.crc = [0xFFFF#16, 0xFFFF#16, 0xFFFF#16, 0xC1B2#16, 0x7B6D#16, 0xB2DD#16, 0x4AB8#16, 0x4AB8#16,
        0x4AB8#16].getD k 0x0000#16 ∧
      t.txIdx = BitVec.ofNat 17 k ∧ t.txBusy = decide (k ≠ 8))

/-- From R38, R142 and R144: after `ENCODE` or `TX_START`, `TXBUF` reads as the truncated payload at its indices and
has no other byte, and every byte of `RXBUF` and every receive register reads as before. -/
def Obligations.FramerStoresThePayload : Prop :=
  ∀ (opcode : Byte) (payload : List Byte) (s t : State) (i : Instr),
    i = .encode opcode payload ∨ i = .txStart opcode payload → exec i s = .next t →
    (∀ a : Nat, readTxbuf t a = (truncate opcode payload)[a]?) ∧
    (∀ a : Nat, t.rxbuf.read a = s.rxbuf.read a) ∧ (∀ a : Nat, readRxbuf t a = readRxbuf s a) ∧
    t.err = s.err ∧ t.syncOk = s.syncOk ∧ t.lenOk = s.lenOk ∧ t.rxDone = s.rxDone ∧ t.rxExpect = s.rxExpect ∧
    t.rxN = s.rxN ∧ t.rxPlen = s.rxPlen ∧ t.rxBusy = s.rxBusy

/-- R149: `TX_START` and its `TX_LEN + 7` steps append the frame to `TXOUT` and end in the state `ENCODE` ends in. -/
def Obligations.TxRunEqualsEncode : Prop :=
  ∀ (opcode : Byte) (payload : List Byte) (s : State), payload.length ≤ 65535 → Idle s →
    ∃ t : State,
      run (.txStart opcode payload :: List.replicate ((truncate opcode payload).length + 7) .txStep) s = .next t ∧
      exec (.encode opcode payload) s = .next t ∧
      t.txout = s.txout ++ encodeFrame opcode payload

/-- From R150 (a) to (c): frame lengths, the first two bytes, and injectivity in opcode and truncated payload. -/
def Obligations.EncodeIsInjective : Prop :=
  (∀ (opcode : Byte) (payload : List Byte), payload.length ≤ 65535 →
    (encodeFrame opcode payload).length =
      (if opcode = 0x01#8 then min payload.length 1024 else payload.length) + 7 ∧
    (encodeFrame opcode payload).take 2 = [0xAB#8, 0xCD#8]) ∧
  (∀ (op₁ op₂ : Byte) (p₁ p₂ : List Byte), p₁.length ≤ 65535 → p₂.length ≤ 65535 →
    encodeFrame op₁ p₁ = encodeFrame op₂ p₂ → op₁ = op₂ ∧ truncate op₁ p₁ = truncate op₂ p₂)

/-! ## The deframer -/

/-- R160: the three checks in their order, and the payload. -/
def Obligations.DecodeAndValidateInOrder : Prop :=
  ∀ (buf : List Byte) (expect : Byte),
    decodeAndValidate buf expect =
      if buf.length < 7 then .error .frameTooShort
      else if crcCompute ((buf.drop 2).take (buf.length - 4)) ≠
          be16 (buf.getD (buf.length - 2) 0x00#8) (buf.getD (buf.length - 1) 0x00#8) then
        .error .checksumMismatch
      else if buf.getD 2 0x00#8 ≠ expect then .error .opcodeMismatch
      else .ok ((buf.drop 5).take (min (be16 (buf.getD 3 0x00#8) (buf.getD 4 0x00#8)).toNat (buf.length - 7)))

/-- From R166: no check reads the two sync bytes; the flag `SYNC_OK` alone tells them apart. -/
def Obligations.SyncBytesAreIgnored : Prop :=
  (∀ (a b a' b' : Byte) (rest : List Byte) (expect : Byte),
    decodeAndValidate (a :: b :: rest) expect = decodeAndValidate (a' :: b' :: rest) expect ∧
    lenFlag (a :: b :: rest) = lenFlag (a' :: b' :: rest)) ∧
  (∀ (a b : Byte) (rest : List Byte), syncFlag (a :: b :: rest) = true ↔ a = 0xAB#8 ∧ b = 0xCD#8)

/-- From R168 and R228: what `DECODE` leaves, everything else untouched; refused while busy, then for more than 65542
bytes. The verdict joins those along the way. R228 makes the verdicts along
the way a result of a run; that they are a history in State, one entry of `ERR`, `SYNC_OK`, `LEN_OK` and `RX_PLEN` for
each, is the model's choice (Log 15). -/
def Obligations.DecodeRecordsTheVerdict : Prop :=
  OpName.decode.code = 0x4#4 ∧
  (∀ (expect : Byte) (buf : List Byte) (s : State), Idle s → buf.length ≤ 65542 →
    ∃ t : State, exec (.decode expect buf) s = .next t ∧ t =
      { s with
        rxExpect := expect
        rxbuf := Mem.ofBytes 0 buf
        rxN := BitVec.ofNat 17 buf.length
        crc := if 4 ≤ buf.length then crcCompute ((buf.drop 2).take (buf.length - 4)) else 0xFFFF#16
        syncOk := decide (2 ≤ buf.length ∧ buf.getD 0 0x00#8 = 0xAB#8 ∧ buf.getD 1 0x00#8 = 0xCD#8)
        lenOk := decide (7 ≤ buf.length ∧
          (be16 (buf.getD 3 0x00#8) (buf.getD 4 0x00#8)).toNat = buf.length - 7)
        err := match decodeAndValidate buf expect with
          | .error .frameTooShort => 1#3
          | .error .checksumMismatch => 2#3
          | .error .opcodeMismatch => 3#3
          | .error .timeout => 4#3
          | .error .payloadTooLarge => 5#3
          | .ok _ => 0#3
        rxPlen := match decodeAndValidate buf expect with
          | .error _ => 0#16
          | .ok p => BitVec.ofNat 16 p.length
        rxDone := true
        rxBusy := false
        verdicts := s.verdicts ++ [{ err := t.err, syncOk := t.syncOk, lenOk := t.lenOk, plen := t.rxPlen }] }) ∧
  (∀ (expect : Byte) (buf : List Byte), decodeAndValidate buf expect ≠ .error .timeout ∧
    decodeAndValidate buf expect ≠ .error .payloadTooLarge) ∧
  (∀ (expect : Byte) (buf : List Byte) (s : State), ¬ Idle s → exec (.decode expect buf) s = .refused .busy) ∧
  (∀ (expect : Byte) (buf : List Byte) (s : State), Idle s → 65542 < buf.length →
    exec (.decode expect buf) s = .refused .rxOverrun) ∧
  (∀ s : State, Idle s → ∃ t,
    exec (.decode 0x02#8 [0xAB#8, 0xCD#8, 0x02#8, 0x00#8, 0x01#8, 0x01#8, 0x4A#8, 0xB8#8]) s = .next t ∧
    t.err = 0#3 ∧ t.rxN = 8#17 ∧ t.rxPlen = 1#16 ∧ deliveredBytes t = some [0x01#8] ∧ t.crc = 0x4AB8#16 ∧
    rxCrcView t = some 0x4AB8#16 ∧ t.syncOk = true ∧ t.lenOk = true ∧ t.rxDone = true)

/-- R170: what `RX_START` leaves, everything else untouched; no byte of `RXBUF` is defined; refused while busy. -/
def Obligations.RxStartBeginsEmpty : Prop :=
  OpName.rxStart.code = 0xA#4 ∧
  (∀ (expect : Byte) (s : State), Idle s → exec (.rxStart expect) s = .next
    { s with
      rxExpect := expect
      rxN := 0#17
      rxbuf := []
      rxPlen := 0#16
      crc := 0xFFFF#16
      err := 0#3
      syncOk := false
      lenOk := false
      rxDone := false
      rxBusy := true }) ∧
  (∀ (expect : Byte) (s : State), ¬ Idle s → exec (.rxStart expect) s = .refused .busy) ∧
  (∀ (expect : Byte) (s t : State), exec (.rxStart expect) s = .next t →
    (∀ a : Nat, readRxbuf t a = none) ∧ (statusReg t = if s.trunc then 0x88#8 else 0x80#8))

/-- R171: `RX_BYTE` stores at `RX_N`, folds the byte two places back from the fifth byte on, and advances; refused
while not receiving, and at 65542 bytes. -/
def Obligations.RxByteStoresAndFolds : Prop :=
  OpName.rxByte.code = 0xB#4 ∧
  (∀ (b : Byte) (s : State), s.rxBusy = true → s.rxN.toNat < 4 →
    exec (.rxByte b) s = .next { s with rxbuf := s.rxbuf.write s.rxN.toNat b, rxN := s.rxN + 1#17 }) ∧
  (∀ (b v : Byte) (s : State), s.rxBusy = true → 4 ≤ s.rxN.toNat → s.rxN.toNat < 65542 →
    readRxbuf s (s.rxN.toNat - 2) = some v →
    exec (.rxByte b) s = .next
      { s with rxbuf := s.rxbuf.write s.rxN.toNat b, crc := crcUpdate s.crc v, rxN := s.rxN + 1#17 }) ∧
  (∀ (b : Byte) (s : State), s.rxBusy = false → exec (.rxByte b) s = .refused .notReceiving) ∧
  (∀ (b : Byte) (s : State), s.rxBusy = true → s.rxN = 65542#17 → exec (.rxByte b) s = .refused .rxOverrun) ∧
  (∀ (expect : Byte) (buf : List Byte) (s : State), Idle s → buf.length ≤ 65542 →
    ∃ t, run (.rxStart expect :: buf.map Instr.rxByte) s = .next t ∧ t.rxN = BitVec.ofNat 17 buf.length ∧
      t.rxBusy = true ∧
      t.crc = if 4 ≤ buf.length then crcCompute ((buf.drop 2).take (buf.length - 4)) else 0xFFFF#16) ∧
  (∀ (s : State) (k : Nat), Idle s → k ≤ 8 →
    ∃ t, run (.rxStart 0x02#8 :: ([0xAB#8, 0xCD#8, 0x02#8, 0x00#8, 0x01#8, 0x01#8, 0x4A#8, 0xB8#8].take k).map
        Instr.rxByte) s = .next t ∧
      t.crc = [0xFFFF#16, 0xFFFF#16, 0xFFFF#16, 0xFFFF#16, 0xFFFF#16, 0xC1B2#16, 0x7B6D#16, 0xB2DD#16,
        0x4AB8#16].getD k 0x0000#16)

/-- From R39 and R171: the one byte `RX_BYTE` stores is that at `RX_N`; every other byte of both buffers reads as
before, and every register but `RX_N` and `CRC` is untouched: `RX_N` is one more, and `CRC` stays below the fifth byte
and then folds the byte two places back. -/
def Obligations.RxByteStoresOnlyItsByte : Prop :=
  ∀ (b : Byte) (s t : State), exec (.rxByte b) s = .next t →
    t.rxbuf.read s.rxN.toNat = some b ∧ readRxbuf t s.rxN.toNat = some b ∧
    (∀ a : Nat, a ≠ s.rxN.toNat → t.rxbuf.read a = s.rxbuf.read a) ∧
    (∀ a : Nat, a < s.rxN.toNat → readRxbuf t a = readRxbuf s a) ∧
    (∀ a : Nat, t.txbuf.read a = s.txbuf.read a) ∧ t.txout = s.txout ∧
    t.rxN.toNat = s.rxN.toNat + 1 ∧ t.err = s.err ∧ t.trunc = s.trunc ∧ t.syncOk = s.syncOk ∧ t.lenOk = s.lenOk ∧
    t.rxDone = s.rxDone ∧ t.txOpcode = s.txOpcode ∧ t.txLen = s.txLen ∧ t.txIdx = s.txIdx ∧
    t.txBusy = s.txBusy ∧ t.rxExpect = s.rxExpect ∧ t.rxPlen = s.rxPlen ∧ t.rxBusy = s.rxBusy ∧
    (s.rxN.toNat < 4 → t.crc = s.crc) ∧
    (4 ≤ s.rxN.toNat → ∃ v, readRxbuf s (s.rxN.toNat - 2) = some v ∧ t.crc = crcUpdate s.crc v)

/-- From R172 and R228: the verdict of `RX_END` by the fields in `RXBUF`, everything else untouched; refused while not
receiving. The verdict joins those along the way. R228 makes the verdicts along
the way a result of a run; that they are a history in State, one entry of `ERR`, `SYNC_OK`, `LEN_OK` and `RX_PLEN` for
each, is the model's choice (Log 15). -/
def Obligations.RxEndReportsTheVerdict : Prop :=
  OpName.rxEnd.code = 0xC#4 ∧
  (∀ s : State, s.rxBusy = true → s.rxN.toNat < 7 →
    ∃ t : State, exec .rxEnd s = .next t ∧ t =
      { s with
        syncOk := decide (2 ≤ s.rxN.toNat ∧ readRxbuf s 0 = some 0xAB#8 ∧ readRxbuf s 1 = some 0xCD#8)
        err := 1#3, lenOk := false, rxPlen := 0#16, rxDone := true, rxBusy := false
        verdicts := s.verdicts ++ [{ err := t.err, syncOk := t.syncOk, lenOk := t.lenOk, plen := t.rxPlen }] }) ∧
  (∀ (s : State) (len rxCrc : Word) (opcode : Byte), s.rxBusy = true → 7 ≤ s.rxN.toNat →
    rxLenView s = some len → readRxWord s (s.rxN.toNat - 2) = some rxCrc → rxOpcodeView s = some opcode →
    ∃ t : State, exec .rxEnd s = .next t ∧ t =
      { s with
        syncOk := decide (2 ≤ s.rxN.toNat ∧ readRxbuf s 0 = some 0xAB#8 ∧ readRxbuf s 1 = some 0xCD#8)
        lenOk := decide (len.toNat = s.rxN.toNat - 7)
        err := if s.crc ≠ rxCrc then 2#3 else if opcode ≠ s.rxExpect then 3#3 else 0#3
        rxPlen := if s.crc ≠ rxCrc then 0#16 else if opcode ≠ s.rxExpect then 0#16
          else BitVec.ofNat 16 (min len.toNat (s.rxN.toNat - 7))
        rxDone := true
        rxBusy := false
        verdicts := s.verdicts ++ [{ err := t.err, syncOk := t.syncOk, lenOk := t.lenOk, plen := t.rxPlen }] }) ∧
  (∀ s : State, s.rxBusy = false → exec .rxEnd s = .refused .notReceiving) ∧
  (∀ s : State, Idle s → s.trunc = false → ∃ t,
    run [.rxStart 0x02#8, .rxByte 0xAB#8, .rxByte 0xCD#8, .rxByte 0x02#8, .rxByte 0x00#8, .rxByte 0x01#8,
      .rxByte 0x01#8, .rxByte 0x4A#8, .rxByte 0xB8#8, .rxEnd] s = .next t ∧
    t.err = 0#3 ∧ t.rxPlen = 1#16 ∧ statusReg t = 0x70#8)

/-- R173: `RX_ABORT` discards the buffer and its verdict, receiving or idle; `CRC` and `RX_EXPECT` keep what they
held; refused while sending. -/
def Obligations.RxAbortDiscardsTheBuffer : Prop :=
  OpName.rxAbort.code = 0x5#4 ∧
  (∀ s : State, s.txBusy = false → exec .rxAbort s = .next
    { s with
      rxN := 0#17
      rxbuf := []
      rxPlen := 0#16
      err := 0#3
      syncOk := false
      lenOk := false
      rxDone := false
      rxBusy := false }) ∧
  (∀ s : State, s.txBusy = true → exec .rxAbort s = .refused .busy) ∧
  (∀ s : State, Idle s → ∃ t,
    run [.rxStart 0x00#8, .rxByte 0xAB#8, .rxByte 0xCD#8, .rxAbort] s = .next t ∧
    t.rxN = 0#17 ∧ t.rxBusy = false ∧ t.err = 0#3 ∧ t.crc = 0xFFFF#16)

/-- R176: `RX_START`, one `RX_BYTE` per byte and `RX_END` end in the state `DECODE` ends in, whose verdict and
payload are those of `decode_and_validate`. -/
def Obligations.RxRunEqualsDecode : Prop :=
  ∀ (expect : Byte) (buf : List Byte) (s : State), buf.length ≤ 65542 → Idle s →
    ∃ t : State,
      run (.rxStart expect :: (buf.map Instr.rxByte ++ [.rxEnd])) s = .next t ∧
      exec (.decode expect buf) s = .next t ∧
      (∀ k : ErrorKind, decodeAndValidate buf expect = .error k → t.err = k.code ∧ t.rxPlen = 0#16) ∧
      (∀ p : List Byte, decodeAndValidate buf expect = .ok p → t.err = 0#3 ∧ deliveredBytes t = some p)

/-- R177: decoding an encoded frame under its opcode gives the truncated payload, with both flags set. -/
def Obligations.FrameRoundTrip : Prop :=
  ∀ (opcode : Byte) (payload : List Byte), payload.length ≤ 65535 →
    decodeAndValidate (encodeFrame opcode payload) opcode = .ok (truncate opcode payload) ∧
    lenFlag (encodeFrame opcode payload) = true ∧ syncFlag (encodeFrame opcode payload) = true ∧
    (opcode ≠ 0x01#8 ∨ payload.length ≤ 1024 → truncate opcode payload = payload)

/-- From R178: a single flipped bit from offset 2 on is always a ChecksumMismatch; one in the sync field is not
detected and only clears `SYNC_OK`. -/
def Obligations.SingleBitFlipIsDetected : Prop :=
  ∀ (opcode : Byte) (payload : List Byte) (i j : Nat), payload.length ≤ 65535 → j < 8 →
    (2 ≤ i → i < (encodeFrame opcode payload).length → ∀ expect : Byte,
      decodeAndValidate (flipBit (encodeFrame opcode payload) i j) expect = .error .checksumMismatch) ∧
    (i < 2 →
      decodeAndValidate (flipBit (encodeFrame opcode payload) i j) opcode = .ok (truncate opcode payload) ∧
      syncFlag (flipBit (encodeFrame opcode payload) i j) = false)

/-- From R178: a valid frame followed by bytes 0x00 still validates, with the same payload and `LEN_OK` = 0. -/
def Obligations.AppendedZerosStillValidate : Prop :=
  ∀ (opcode : Byte) (payload : List Byte) (k : Nat), payload.length ≤ 65535 → 1 ≤ k →
    decodeAndValidate (encodeFrame opcode payload ++ List.replicate k 0x00#8) opcode =
      .ok (truncate opcode payload) ∧
    lenFlag (encodeFrame opcode payload ++ List.replicate k 0x00#8) = false

/-- R249: a report keeps everything else. `RX_END` keeps the buffer, `RX_N`, `RX_EXPECT` and `CRC`; `RX_END` and
`DECODE` keep all transmit-side state; neither delivers a payload. -/
def Obligations.ReportKeepsEverythingElse : Prop :=
  (∀ s t : State, exec .rxEnd s = .next t → t.err ≠ 0#3 →
    (∀ a : Nat, readRxbuf t a = readRxbuf s a) ∧ t.rxN = s.rxN ∧ t.rxExpect = s.rxExpect ∧ t.crc = s.crc ∧
    rxSyncView t = rxSyncView s ∧ rxOpcodeView t = rxOpcodeView s ∧ rxLenView t = rxLenView s) ∧
  (∀ (i : Instr) (s t : State), (i = .rxEnd ∨ ∃ expect buf, i = .decode expect buf) → exec i s = .next t →
    t.err ≠ 0#3 →
    t.rxPlen = 0#16 ∧ t.rxDone = true ∧ t.rxBusy = false ∧
    t.txOpcode = s.txOpcode ∧ t.txLen = s.txLen ∧ t.txIdx = s.txIdx ∧ t.txBusy = s.txBusy ∧ t.trunc = s.trunc ∧
    (∀ a : Nat, readTxbuf t a = readTxbuf s a) ∧ t.txout = s.txout ∧ t.stream = s.stream ∧ t.session = s.session ∧
    t.results = s.results)

/-! ## Registers, flags and reset -/

/-- R246: the codes of the error kinds; only 0 to 3 are ever reported by a decode. -/
def Obligations.ErrorKindCodes : Prop :=
  ErrorKind.frameTooShort.code = 1#3 ∧ ErrorKind.checksumMismatch.code = 2#3 ∧
  ErrorKind.opcodeMismatch.code = 3#3 ∧ ErrorKind.timeout.code = 4#3 ∧ ErrorKind.payloadTooLarge.code = 5#3 ∧
  (∀ k : ErrorKind, ErrorKind.ofCode k.code = some k) ∧
  ErrorKind.ofCode 0#3 = none ∧ ErrorKind.ofCode 6#3 = none ∧ ErrorKind.ofCode 7#3 = none ∧
  (∀ (buf : List Byte) (expect : Byte), verdictErr (verdictOf (decodeAndValidate buf expect)) = 0#3 ∨
    verdictErr (verdictOf (decodeAndValidate buf expect)) = 1#3 ∨
    verdictErr (verdictOf (decodeAndValidate buf expect)) = 2#3 ∨
    verdictErr (verdictOf (decodeAndValidate buf expect)) = 3#3)

/-- R36: the packing of `STATUS`, bit by bit, and its reset value. -/
def Obligations.StatusPacking : Prop :=
  (∀ s : State,
    (statusReg s).extractLsb' 0 3 = s.err ∧ (statusReg s).getLsbD 3 = s.trunc ∧
    (statusReg s).getLsbD 4 = s.syncOk ∧ (statusReg s).getLsbD 5 = s.lenOk ∧
    (statusReg s).getLsbD 6 = s.rxDone ∧ (statusReg s).getLsbD 7 = (s.txBusy || s.rxBusy)) ∧
  (∀ s : State, Inv s → ¬ (s.txBusy = true ∧ s.rxBusy = true) ∧ s.err.toNat ≤ 3) ∧
  statusReg State.reset = 0x00#8

/-- R30: each view has its value exactly when the bytes it names have been received; otherwise the host's read of it
is refused. -/
def Obligations.ViewsOfTheReceivedBuffer : Prop :=
  ∀ (s : State) (buf : List Byte), s.rxbuf = Mem.ofBytes 0 buf → s.rxN.toNat = buf.length →
    (rxSyncView s = if 2 ≤ buf.length then some (be16 (byteAt buf 0) (byteAt buf 1)) else none) ∧
    (rxOpcodeView s = if 3 ≤ buf.length then some (byteAt buf 2) else none) ∧
    (rxLenView s = if 5 ≤ buf.length then some (be16 (byteAt buf 3) (byteAt buf 4)) else none) ∧
    (rxCrcView s = if s.rxBusy = false ∧ 7 ≤ buf.length then
      some (be16 (byteAt buf (buf.length - 2)) (byteAt buf (buf.length - 1))) else none) ∧
    (buf.length < 2 → readReg s .rxSync = .error .noValue) ∧
    (buf.length < 3 → readReg s .rxOpcode = .error .noValue) ∧
    (buf.length < 5 → readReg s .rxLen = .error .noValue) ∧
    (s.rxBusy = true ∨ buf.length < 7 → readReg s .rxCrc = .error .noValue)

/-- From R20 and R30: the numbers of the twelve registers, what the host's read of each storage register and of `STATUS`
answers in every state, and what its read of a view answers inside the view's condition. -/
def Obligations.HostReadsOfRegisters : Prop :=
  (Reg.crc.number = 0 ∧ Reg.status.number = 1 ∧ Reg.txOpcode.number = 2 ∧ Reg.txLen.number = 3 ∧
    Reg.txIdx.number = 4 ∧ Reg.rxExpect.number = 5 ∧ Reg.rxN.number = 6 ∧ Reg.rxPlen.number = 7 ∧
    Reg.rxSync.number = 8 ∧ Reg.rxOpcode.number = 9 ∧ Reg.rxLen.number = 10 ∧ Reg.rxCrc.number = 11) ∧
  (∀ s : State,
    readReg s .crc = .ok (s.crc.setWidth 17) ∧ readReg s .status = .ok ((statusReg s).setWidth 17) ∧
    readReg s .txOpcode = .ok (s.txOpcode.setWidth 17) ∧ readReg s .txLen = .ok (s.txLen.setWidth 17) ∧
    readReg s .txIdx = .ok s.txIdx ∧ readReg s .rxExpect = .ok (s.rxExpect.setWidth 17) ∧
    readReg s .rxN = .ok s.rxN ∧ readReg s .rxPlen = .ok (s.rxPlen.setWidth 17)) ∧
  (∀ (s : State) (buf : List Byte), s.rxbuf = Mem.ofBytes 0 buf → s.rxN.toNat = buf.length →
    (2 ≤ buf.length → readReg s .rxSync = .ok ((be16 (byteAt buf 0) (byteAt buf 1)).setWidth 17)) ∧
    (3 ≤ buf.length → readReg s .rxOpcode = .ok ((byteAt buf 2).setWidth 17)) ∧
    (5 ≤ buf.length → readReg s .rxLen = .ok ((be16 (byteAt buf 3) (byteAt buf 4)).setWidth 17)) ∧
    (s.rxBusy = false → 7 ≤ buf.length → readReg s .rxCrc =
      .ok ((be16 (byteAt buf (buf.length - 2)) (byteAt buf (buf.length - 1))).setWidth 17)))

/-- From R38, R39 and R71: a host read past the defined length of a buffer is refused, and one inside it gives the
byte. That the host may read `TXBUF` at all is the model's choice (Log 9). -/
def Obligations.BufferReadsAreBounded : Prop :=
  (∀ (s : State) (i : Nat), s.txLen.toNat ≤ i → hostReadTxbuf s i = .error .noValue) ∧
  (∀ (s : State) (i : Nat), s.rxN.toNat ≤ i → hostReadRxbuf s i = .error .noValue) ∧
  (∀ (s : State) (i : Nat), Inv s → i < s.txLen.toNat →
    ∃ b, s.txbuf.bytes[i]? = some b ∧ hostReadTxbuf s i = .ok b) ∧
  (∀ (s : State) (i : Nat), Inv s → i < s.rxN.toNat →
    ∃ b, s.rxbuf.bytes[i]? = some b ∧ hostReadRxbuf s i = .ok b)

/-- R281: the reset values. -/
def Obligations.ResetValues : Prop :=
  State.reset.crc = 0xFFFF#16 ∧ statusReg State.reset = 0x00#8 ∧ State.reset.err = 0#3 ∧
  State.reset.trunc = false ∧ State.reset.syncOk = false ∧ State.reset.lenOk = false ∧
  State.reset.rxDone = false ∧ State.reset.busy = false ∧ State.reset.txOpcode = 0x00#8 ∧
  State.reset.txLen = 0#16 ∧ State.reset.txIdx = 0#17 ∧ State.reset.txBusy = false ∧
  State.reset.rxExpect = 0x00#8 ∧ State.reset.rxN = 0#17 ∧ State.reset.rxPlen = 0#16 ∧
  State.reset.rxBusy = false ∧
  (∀ i : Nat, readTxbuf State.reset i = none ∧ readRxbuf State.reset i = none) ∧
  rxSyncView State.reset = none ∧ rxOpcodeView State.reset = none ∧ rxLenView State.reset = none ∧
  rxCrcView State.reset = none ∧
  (∀ buf : List Byte, run (buf.map Instr.crcUpdate) State.reset = .next { State.reset with crc := crcCompute buf })

/-- From R280 and R284: with the reset input asserted, the next step, whatever the block was doing, puts every
register, flag and buffer of the block at its reset value; the bytes already emitted stay, and those still in flight
wait in the stream for the next drain. In a transaction at level B: after `j` of the frame's bytes those `j` have been
emitted and no more follow; once the whole frame has been sent, with `k` bytes of the answer read or before `RX_START`,
what is unread of the answer is in the stream's buffer and no later read has it. By the model's choice the Session stays
connected but its transaction ends, and what was reported and returned and what the host has still to do stay (Log 3); a
level B transaction is one step for each operation and edge (Log 2), over the model's stream (Log 5). -/
def Obligations.ResetInputResetsTheBlock : Prop :=
  (∀ s : State, s.resetInput = true →
    step s = .next
      { State.reset with
        txout := s.txout
        stream :=
          { buffered := s.stream.buffered ++ s.stream.late, late := [], arrivals := s.stream.arrivals }
        session := s.session.map fun _ => Session.idle
        verdicts := s.verdicts
        results := s.results
        actions := s.actions }) ∧
  (∀ (i : Instr) (c : Command) (opcode : Byte) (payload : List Byte) (rest : List HostAction) (s : State),
    frameOf i = some (c, opcode, payload) → Idle s → Rests s → payload.length ≤ 65535 → s.resetInput = false →
    s.actions = .levelB i :: rest →
    (∀ j : Nat, j < (truncate opcode payload).length + 7 → ∃ u v : State,
      stepN (j + 3) s = .next u ∧ u.txBusy = true ∧ step { u with resetInput := true } = .next v ∧
      v.txout = s.txout ++ (encodeFrame opcode payload).take j ∧ v.stream.arrivals = s.stream.arrivals ∧
      v.txBusy = false ∧ Rests v ∧ v.results = s.results) ∧
    (∃ u v : State,
      stepN ((truncate opcode payload).length + 10) s = .next u ∧ Idle u ∧
      step { u with resetInput := true } = .next v ∧ v.txout = s.txout ++ encodeFrame opcode payload ∧
      v.stream =
        { buffered := s.stream.next.inTime ++ s.stream.next.late, late := [], arrivals := s.stream.arrivals.tail } ∧
      Rests v ∧ v.results = s.results) ∧
    (∀ k : Nat, k ≤ c.expectLen (truncate opcode payload).length → k ≤ s.stream.next.inTime.length → ∃ u v : State,
      stepN ((truncate opcode payload).length + k + 11) s = .next u ∧ u.rxBusy = true ∧ u.rxN.toNat = k ∧
      step { u with resetInput := true } = .next v ∧ v.txout = s.txout ++ encodeFrame opcode payload ∧
      v.stream =
        { buffered := s.stream.next.inTime.drop k ++ s.stream.next.late
          late := []
          arrivals := s.stream.arrivals.tail } ∧
      v.rxN = 0#17 ∧ v.crc = 0xFFFF#16 ∧ v.rxExpect = 0x00#8 ∧ Rests v ∧ v.results = s.results))

/-! ## Transactions -/

/-- From R213 to R217, R227 and R244: a transaction whose read meets fewer than `E` bytes sends its frame, aborts the
receive side and fails with Timeout; nothing is decoded, nothing of the bytes that did arrive is kept, and the Session
is `Idle` again. Stated for every frame instruction and pseudo frame. That a frame instruction runs a whole transaction
is the model's reading (Log 4). -/
def Obligations.TransactionTimesOut : Prop :=
  ∀ (i : Instr) (c : Command) (opcode : Byte) (payload : List Byte) (s : State),
    frameOf i = some (c, opcode, payload) → Idle s → Rests s → payload.length ≤ 65535 →
    s.stream.next.inTime.length < c.expectLen (truncate opcode payload).length →
    exec i s = .next
      { s with
        trunc := decide (opcode = 0x01#8 ∧ 1024 < payload.length)
        txOpcode := opcode
        txLen := BitVec.ofNat 16 (truncate opcode payload).length
        txbuf := Mem.ofBytes 0 (truncate opcode payload)
        crc := trailer (encodeFrame opcode payload)
        txout := s.txout ++ encodeFrame opcode payload
        txIdx := BitVec.ofNat 17 ((truncate opcode payload).length + 7)
        rxN := 0#17
        rxbuf := []
        rxPlen := 0#16
        err := 0#3
        syncOk := false
        lenOk := false
        rxDone := false
        stream := { buffered := s.stream.next.late, late := [], arrivals := s.stream.arrivals.tail }
        results := s.results ++ [c.onError .timeout] }

/-- From R217, R218 and R227: a transaction whose read meets `E` bytes leaves the block as `ENCODE` and then `DECODE`
of the first `E` bytes leave it, with the rest kept for the next drain. Its result is the operation's for the error
kind in `ERR`, or, when `ERR` = 0, what the operation makes of the response; the Session is `Idle` again (Log 4). -/
def Obligations.TransactionEncodesThenDecodes : Prop :=
  ∀ (i : Instr) (c : Command) (opcode : Byte) (payload : List Byte) (s : State),
    frameOf i = some (c, opcode, payload) → Idle s → Rests s → payload.length ≤ 65535 →
    c.expectLen (truncate opcode payload).length ≤ s.stream.next.inTime.length →
    ∃ (u : State) (r : CommandResult),
      run [.encode opcode payload,
        .decode opcode (s.stream.next.inTime.take (c.expectLen (truncate opcode payload).length))] s = .next u ∧
      (∀ k : ErrorKind, ErrorKind.ofCode u.err = some k → r = c.onError k) ∧
      (u.err = 0#3 → c.onComplete (encodeFrame opcode payload) u = some r) ∧
      exec i s = .next
        { u with
          stream :=
            { buffered := s.stream.next.inTime.drop (c.expectLen (truncate opcode payload).length) ++
                s.stream.next.late
              late := []
              arrivals := s.stream.arrivals.tail }
          results := s.results ++ [r] }

/-- From R227: a transaction at level B takes one step for each operation and edge. When its read meets `E` bytes it
ends in the very state the frame instruction ends in; when it meets fewer it ends in that state but for `CRC` and
`RX_EXPECT`, which `RX_START` and the `RX_BYTE`s before the `RX_ABORT` have written (R170, R171, R173). That what the
host does is a list in State, one step for each edge, is the model's choice (Log 2, Log 4). -/
def Obligations.LevelBTransactionFollowsLevelA : Prop :=
  ∀ (i : Instr) (c : Command) (opcode : Byte) (payload : List Byte) (rest : List HostAction) (s : State),
    frameOf i = some (c, opcode, payload) → Idle s → Rests s → payload.length ≤ 65535 → s.resetInput = false →
    s.actions = .levelB i :: rest →
    ∃ t : State, exec i { s with actions := rest } = .next t ∧
      (c.expectLen (truncate opcode payload).length ≤ s.stream.next.inTime.length →
        stepN ((truncate opcode payload).length + c.expectLen (truncate opcode payload).length + 14) s = .next t) ∧
      (s.stream.next.inTime.length < c.expectLen (truncate opcode payload).length →
        stepN ((truncate opcode payload).length + s.stream.next.inTime.length + 13) s = .next
          { t with
            crc := if 4 ≤ s.stream.next.inTime.length then
              crcCompute ((s.stream.next.inTime.drop 2).take (s.stream.next.inTime.length - 4)) else 0xFFFF#16
            rxExpect := opcode })

/-- From R211 and R212: the Session is created at connect and destroyed at close; without it, and while a transaction
is in flight, a frame is refused; a transaction begins in `Draining`. The refusals' names and that connect and close
are actions of the host are the model's choice (Log 2, Log 16), and so is that both leave what is buffered on the stream
as it is (Log 21). -/
def Obligations.SessionLife : Prop :=
  (∀ (s : State) (rest : List HostAction), s.resetInput = false → s.session = none → s.actions = .connect :: rest →
    step s = .next { s with session := some Session.idle, actions := rest }) ∧
  (∀ (s : State) (rest : List HostAction), s.resetInput = false → Rests s → s.actions = .connect :: rest →
    step s = .refused .sessionOpen) ∧
  (∀ (s : State) (rest : List HostAction), s.resetInput = false → Rests s → s.actions = .close :: rest →
    step s = .next { s with session := none, actions := rest }) ∧
  (∀ (s : State) (rest : List HostAction), s.resetInput = false → s.session = none → s.actions = .close :: rest →
    step s = .refused .noSession) ∧
  (∀ (s : State) (i : Instr) (x : Command × Byte × List Byte), frameOf i = some x → s.session = none →
    exec i s = .refused .noSession) ∧
  (∀ (s : State) (i : Instr) (x : Command × Byte × List Byte) (t : Txn), frameOf i = some x → s.txn = some t →
    exec i s = .refused .sessionBusy) ∧
  (∀ (s : State) (i : Instr) (c : Command) (opcode : Byte) (payload : List Byte) (rest : List HostAction),
    s.resetInput = false → Rests s → Idle s → frameOf i = some (c, opcode, payload) → payload.length ≤ 65535 →
    s.actions = .levelB i :: rest →
    step s = .next
      { s with
        session := some (Session.mk (some
          { command := c, expectOp := opcode, payload := payload, stage := .draining, sent := [], expectLen := 0 }))
        actions := rest })

/-- From R212 and R217: from every state that satisfies the invariant, a transaction in flight goes on, along an edge of
R212 or of R217's timeout and along no other, and the block is then as the table of R212 says. -/
def Obligations.TransactionEdges : Prop :=
  ∀ (s : State) (t : Txn), Inv s → s.resetInput = false → s.txn = some t →
    ∃ u : State, step s = .next u ∧ edge t.stage (u.txn.map Txn.stage) ∧
      (u.txn.map Txn.stage = some .validating → u.rxN.toNat = t.expectLen ∧ u.rxExpect = t.expectOp) ∧
      (u.txn.map Txn.stage = some .complete → u.busy = false ∧ u.rxDone = true ∧ u.err = 0#3) ∧
      (u.txn.map Txn.stage = some .failed → u.busy = false ∧ (u.rxDone = true → u.err ≠ 0#3)) ∧
      (u.txn = none → u = { s with session := some Session.idle })

/-- From R194 and R222: a valid 9-byte response gives `read_gpio` buffer bytes 5 and 6, whatever its length field
says; the request is always the same 7 bytes. -/
def Obligations.ReadGpioReturnsBytesFiveAndSix : Prop :=
  ∀ (s : State) (p : List Byte), Idle s → Rests s → 9 ≤ s.stream.next.inTime.length →
    decodeAndValidate (s.stream.next.inTime.take 9) 0x03#8 = .ok p →
    ∃ t : State, exec .readGpio s = .next t ∧ t.rxDone = true ∧ t.err = 0#3 ∧
      t.results = s.results ++
        [.gpioState (byteAt s.stream.next.inTime 5) (byteAt s.stream.next.inTime 6)] ∧
      t.txout = s.txout ++ [0xAB#8, 0xCD#8, 0x03#8, 0x00#8, 0x00#8, 0x95#8, 0xCC#8]

/-- From R191, R220 and R252: `read_version` makes its string of a valid 24-byte response by the open layout, returns
"unknown" on a valid frame of another opcode, and fails on a corrupted one. -/
def Obligations.VersionReturnsAString : Prop :=
  ∀ s : State, Idle s → Rests s → 24 ≤ s.stream.next.inTime.length →
    ∃ t : State, exec .version s = .next t ∧
      t.txout = s.txout ++ [0xAB#8, 0xCD#8, 0x00#8, 0x00#8, 0x00#8, 0xCC#8, 0x9C#8] ∧
      (∀ p : List Byte, decodeAndValidate (s.stream.next.inTime.take 24) 0x00#8 = .ok p →
        t.err = 0#3 ∧
        t.results = s.results ++ [.versionText (Config.versionText (s.stream.next.inTime.take 24))]) ∧
      (decodeAndValidate (s.stream.next.inTime.take 24) 0x00#8 = .error .opcodeMismatch →
        t.err = 3#3 ∧ t.results = s.results ++ [.versionText "unknown"]) ∧
      (decodeAndValidate (s.stream.next.inTime.take 24) 0x00#8 = .error .checksumMismatch →
        t.err = 2#3 ∧ t.results = s.results ++ [.failure .checksumMismatch])

/-- From R192 and R223: a valid response of the request's size gives `spi_transfer` its payload, of the request's length
after truncation when the length field counts the body; when it does not (`LEN_OK` = 0), the delivered payload or the
whole body, which of the two is open (90_conflicts.md C10, Log 8). -/
def Obligations.SpiTransferReturnsThePayload : Prop :=
  ∀ (payload data : List Byte) (s : State), Idle s → Rests s → payload.length ≤ 65535 →
    min payload.length 1024 + 7 ≤ s.stream.next.inTime.length →
    decodeAndValidate (s.stream.next.inTime.take (min payload.length 1024 + 7)) 0x01#8 = .ok data →
    ∃ (t : State) (r : List Byte), exec (.spiTransfer payload) s = .next t ∧ t.rxDone = true ∧ t.err = 0#3 ∧
      t.results = s.results ++ [.spiData r] ∧ t.trunc = decide (1024 < payload.length) ∧
      t.lenOk = lenFlag (s.stream.next.inTime.take (min payload.length 1024 + 7)) ∧
      (t.lenOk = true → r = data ∧ data.length = min payload.length 1024) ∧
      (t.lenOk = false → r = data ∨ r = (s.stream.next.inTime.drop 5).take (min payload.length 1024))

/-- From R195 and R224: a valid 9-byte response gives `read_register` buffer byte 6, whatever its length field says; the
request is the frame `SPI_TRANSFER [r, 00]`. -/
def Obligations.ReadRegisterReturnsTheSecondByte : Prop :=
  ∀ (r : Byte) (p : List Byte) (s : State), Idle s → Rests s → 9 ≤ s.stream.next.inTime.length →
    decodeAndValidate (s.stream.next.inTime.take 9) 0x01#8 = .ok p →
    ∃ t : State, exec (.readRegister r) s = .next t ∧ t.rxDone = true ∧ t.err = 0#3 ∧
      t.results = s.results ++ [.registerValue (byteAt s.stream.next.inTime 6)] ∧
      t.txout = s.txout ++ encodeFrame 0x01#8 [r, 0x00#8]

/-- R221: `set_led` returns true exactly when `E` bytes were read and they equal the sent frame byte for byte. -/
def Obligations.SetLedIsTheExactEcho : Prop :=
  ∀ (i : Instr) (payload : List Byte) (s : State),
    (i = .led payload ∨ (i = .ledOn ∧ payload = [0x01#8]) ∨ (i = .ledOff ∧ payload = [0x00#8])) →
    Idle s → Rests s → payload.length ≤ 65535 →
    ∃ t : State, exec i s = .next t ∧ t.txout = s.txout ++ encodeFrame 0x02#8 payload ∧
      t.results = s.results ++ [.ledEcho (decide
        (s.stream.next.inTime.take (payload.length + 7) = encodeFrame 0x02#8 payload))]

/-- R252: what each Command Layer operation gives its caller on each error kind that can occur; PayloadTooLarge is no
failure (R245). -/
def Obligations.ErrorPropagation : Prop :=
  ∀ k : ErrorKind, k ≠ .payloadTooLarge →
    (Command.readVersion.onError k = if k = .opcodeMismatch then .versionText "unknown" else .failure k) ∧
    Command.setLed.onError k = .ledEcho false ∧ Command.readGpio.onError k = .failure k ∧
    Command.spiTransfer.onError k = .failure k ∧ Command.readRegister.onError k = .failure k

/-! ## Requests, steps and the whole machine -/

/-- A step runs the decoded instruction: with the reset input not asserted and no transaction in flight, a step at a
state where the host issues a request that decodes to an instruction is that instruction's meaning at the state with the
request taken (the model's own fetch, Log 1, Log 2). -/
def Obligations.StepRunsTheDecodedInstruction : Prop :=
  ∀ (s : State) (r : Request) (rest : List HostAction) (i : Instr),
    s.resetInput = false → s.txn = none → s.actions = .issue r :: rest → decodeRequest r = .ok i →
    step s = exec i { s with actions := rest }

/-- Otherwise: with nothing to do the block idles and holds its state (R256); a reserved operation code is refused
(R104), and so is, by the model's choice, every other request that is no instruction (Log 1, Log 17). That the host's
actions are a list in State is the model's choice too (Log 2). -/
def Obligations.StepIdlesOrRefuses : Prop :=
  (∀ s : State, s.resetInput = false → s.txn = none → s.actions = [] → step s = .next s) ∧
  (∀ (s : State) (r : Request) (rest : List HostAction) (why : DecodeError),
    s.resetInput = false → s.txn = none → s.actions = .issue r :: rest → decodeRequest r = .error why →
    step s = .refused (.undecodable why)) ∧
  (∀ (c : BitVec 4) (ops : List Byte), c ∈ [0x6#4, 0x7#4, 0xD#4, 0xE#4, 0xF#4] →
    decodeRequest (.op ((0x0#4 ++ c) :: ops)) = .error (.reservedOperation c))

/-- Decoding an encoded well-formed instruction gives its expansion: itself, for every instruction but the four
pseudo rows (the request's bytes are the model's own packing, Log 1; R107 and R108 give the expansions). -/
def Obligations.DecodeOfEncode : Prop :=
  ∀ i : Instr, i.WellFormed → decodeRequest (encodeRequest i) = .ok i.expand

/-- Each request has one meaning: an operation request that decodes to an instruction is that instruction's encoding, a
frame request that does is, sync and length aside (R108), that instruction's encoding, and the instruction is no pseudo
row. The packing of a request (Log 1) and that a frame request with a short header is no instruction (Log 17) are the
model's choices; that no request decodes to a pseudo row is its reading of R107 and R108 (Log 10). -/
def Obligations.EncodeOfDecode : Prop :=
  (∀ (m : List Byte) (i : Instr), decodeRequest (.op m) = .ok i → encodeRequest i = .op m ∧ i.expand = i) ∧
  (∀ (sh sl opcode lh ll : Byte) (payload : List Byte) (i : Instr),
    decodeRequest (.frame (sh :: sl :: opcode :: lh :: ll :: payload)) = .ok i →
    encodeRequest i = frameRequest opcode payload ∧ i.expand = i) ∧
  (∀ m : List Byte, m.length < 5 → decodeRequest (.frame m) = .error .frameHeader)

/-- From R90, R96, R98, R103, R108 and R197: a few requests, written out byte by byte; and a frame is selected by its
opcode byte, whatever its sync and length bytes are. The packing of a request is the model's choice (Log 1), and so is
that a frame request with opcode byte 0x04 to 0xFF is no instruction and is refused by name: R197 says only that no
transaction can be run with such a frame (Log 17). -/
def Obligations.RequestSamples : Prop :=
  decodeRequest (.op [0x00#8, 0x12#8, 0x34#8]) = .ok (.crcSeed 0x1234#16) ∧
  decodeRequest (.op [0x03#8, 0x02#8, 0x01#8]) = .ok (.encode 0x02#8 [0x01#8]) ∧
  decodeRequest (.op [0x0B#8, 0xAB#8]) = .ok (.rxByte 0xAB#8) ∧
  decodeRequest (.frame [0xAB#8, 0xCD#8, 0x00#8, 0x00#8, 0x00#8]) = .ok .version ∧
  decodeRequest (.frame [0xAB#8, 0xCD#8, 0x01#8, 0x00#8, 0x02#8, 0x42#8, 0x00#8]) =
    .ok (.spiTransfer [0x42#8, 0x00#8]) ∧
  (∀ (sh sl lh ll : Byte) (payload : List Byte),
    decodeRequest (.frame [sh, sl, 0x00#8, lh, ll]) = .ok .version ∧
    decodeRequest (.frame (sh :: sl :: 0x01#8 :: lh :: ll :: payload)) = .ok (.spiTransfer payload) ∧
    decodeRequest (.frame (sh :: sl :: 0x02#8 :: lh :: ll :: payload)) = .ok (.led payload) ∧
    decodeRequest (.frame [sh, sl, 0x03#8, lh, ll]) = .ok .readGpio ∧
    ∀ opcode : Byte, 4 ≤ opcode.toNat →
      decodeRequest (.frame (sh :: sl :: opcode :: lh :: ll :: payload)) = .error (.frameOpcode opcode))

/-- The invariant holds at reset (R43). -/
def Obligations.InvHoldsAtReset : Prop := Inv State.reset

/-- Every step keeps the invariant: the busy bits exclude each other, `ERR` is legal, the defined parts of the
buffers are exactly `TX_LEN` and `RX_N` bytes, the counters stay in range, `CRC` is that of the bytes sent or received
so far, a verdict is that of the buffer in `RXBUF` (R23 to R39, R143, R169), and a transaction in flight finds the block
as the table of R212 says. -/
def Obligations.InvKeptByEveryStep : Prop :=
  ∀ s t : State, Inv s → step s = .next t → Inv t

/-- From R257: in a state that satisfies the invariant, an operation completes exactly when the list of refusals does
not name it. -/
def Obligations.RefusedExactlyAsListed : Prop :=
  ∀ (s : State) (i : Instr), Inv s → ((∃ t : State, exec i s = .next t) ↔ accepts s i)

/-- From R25 and R146: while a frame is being sent, every operation but `TX_STEP` is refused. -/
def Obligations.SendingAcceptsOnlyTxStep : Prop :=
  ∀ (s : State) (i : Instr), s.txBusy = true → s.rxBusy = false → i ≠ .txStep → ∃ r, exec i s = .refused r

/-- From R29: while a buffer is being received, every operation but `RX_BYTE`, `RX_END` and `RX_ABORT` is refused. -/
def Obligations.ReceivingAcceptsOnlyItsContinuation : Prop :=
  ∀ (s : State) (i : Instr), s.rxBusy = true → s.txBusy = false → (∀ b, i ≠ .rxByte b) → i ≠ .rxEnd →
    i ≠ .rxAbort → ∃ r, exec i s = .refused r
end

