-- ==== Sys2Proof/Laws/Memory.lean ====
section
/-! SUPPORT. The byte buffers: reading after writing, the canonical form, and what a buffer built from bytes holds. -/

namespace Sys2Proof.Machine

@[simp] theorem Mem.read_nil (a : Nat) : Mem.read [] a = none := rfl

/-- A read after a write to the same index gives the byte written. -/
@[simp] theorem Mem.read_write_same (m : Mem) (a : Nat) (b : Byte) : (m.write a b).read a = some b := by
  induction m with
  | nil => simp [Mem.write, Mem.read]
  | cons c rest ih =>
    obtain ⟨k, d⟩ := c
    simp only [Mem.write]
    split
    · rename_i hk
      simp [Mem.read, Nat.ne_of_lt hk, ih]
    · split <;> simp [Mem.read]

/-- A write leaves every other index alone. -/
theorem Mem.read_write_other (m : Mem) {a i : Nat} (b : Byte) (h : i ≠ a) : (m.write a b).read i = m.read i := by
  induction m with
  | nil => simp [Mem.write, Mem.read, Ne.symm h]
  | cons c rest ih =>
    obtain ⟨k, d⟩ := c
    simp only [Mem.write]
    split
    · simp [Mem.read, ih]
    · split
      · rename_i hk
        simp [Mem.read, hk, Ne.symm h]
      · simp [Mem.read, Ne.symm h]

/-- A list that strictly rises from above `a` also rises from above anything lower. -/
theorem Mem.risesFrom_mono {a a' : Nat} (h : a' ≤ a) (m : Mem) (hm : Mem.risesFrom a m = true) :
    Mem.risesFrom a' m = true := by
  cases m with
  | nil => rfl
  | cons c rest =>
    simp only [Mem.risesFrom, Bool.and_eq_true, decide_eq_true_eq] at hm ⊢
    exact ⟨by omega, hm.2⟩

/-- Rising from above `a` is a canonical form. -/
theorem Mem.wf_of_risesFrom {a : Nat} (m : Mem) (h : Mem.risesFrom a m = true) : m.wf = true := by
  cases m with
  | nil => rfl
  | cons c rest =>
    simp only [Mem.risesFrom, Bool.and_eq_true] at h
    exact h.2

/-- A write above `a` keeps a list rising from above `a`. -/
theorem Mem.risesFrom_write {a i : Nat} (m : Mem) (b : Byte) (hi : a < i) (hm : Mem.risesFrom a m = true) :
    Mem.risesFrom a (m.write i b) = true := by
  induction m generalizing a with
  | nil => simp [Mem.write, Mem.risesFrom, hi]
  | cons c rest ih =>
    obtain ⟨k, d⟩ := c
    simp only [Mem.risesFrom, Bool.and_eq_true, decide_eq_true_eq] at hm
    simp only [Mem.write]
    split
    · rename_i hk
      simp [Mem.risesFrom, hm.1, ih hk hm.2]
    · split
      · rename_i hk
        subst hk
        simp [Mem.risesFrom, hm.1, hm.2]
      · have : i < k := by omega
        simp [Mem.risesFrom, hi, this, hm.2]

/-- A write keeps the canonical form. -/
theorem Mem.wf_write (m : Mem) (a : Nat) (b : Byte) (hm : m.wf = true) : (m.write a b).wf = true := by
  cases m with
  | nil => rfl
  | cons c rest =>
    obtain ⟨k, d⟩ := c
    simp only [Mem.wf] at hm
    simp only [Mem.write]
    split
    · rename_i hk
      exact Mem.risesFrom_write rest b hk hm
    · split
      · rename_i hk
        simpa [Mem.wf, ← hk] using hm
      · simp [Mem.wf, Mem.risesFrom, hm]
        omega

/-- A buffer built from bytes rises. -/
theorem Mem.risesFrom_ofBytes {a i : Nat} (bs : List Byte) (h : a < i) :
    Mem.risesFrom a (Mem.ofBytes i bs) = true := by
  induction bs generalizing a i with
  | nil => rfl
  | cons b rest ih => simp [Mem.ofBytes, Mem.risesFrom, h, ih (Nat.lt_succ_self i)]

/-- A buffer built from bytes is canonical. -/
theorem Mem.wf_ofBytes (a : Nat) (bs : List Byte) : (Mem.ofBytes a bs).wf = true := by
  cases bs with
  | nil => rfl
  | cons b rest => exact Mem.risesFrom_ofBytes rest (Nat.lt_succ_self a)

/-- The canonical form at reset. -/
theorem reset_mem_wf : State.reset.txbuf.wf = true ∧ State.reset.rxbuf.wf = true := ⟨rfl, rfl⟩

/-- The bytes of a buffer built from bytes are those bytes. -/
@[simp] theorem Mem.bytes_ofBytes (a : Nat) (bs : List Byte) : (Mem.ofBytes a bs).bytes = bs := by
  induction bs generalizing a with
  | nil => rfl
  | cons b rest ih => simpa [Mem.ofBytes, Mem.bytes] using ih (a + 1)

/-- The indices of a buffer built from bytes. -/
theorem Mem.keys_ofBytes (a : Nat) (bs : List Byte) :
    (Mem.ofBytes a bs).map Prod.fst = List.range' a bs.length := by
  induction bs generalizing a with
  | nil => rfl
  | cons b rest ih => simp [Mem.ofBytes, ih, List.range'_succ]

/-- The indices of a buffer built from bytes at index 0. -/
@[simp] theorem Mem.keys_ofBytes_zero (bs : List Byte) :
    (Mem.ofBytes 0 bs).map Prod.fst = List.range bs.length := by
  rw [Mem.keys_ofBytes, List.range_eq_range']

/-- Reading a buffer built from bytes. -/
theorem Mem.read_ofBytes (a i : Nat) (bs : List Byte) :
    (Mem.ofBytes a bs).read i = if a ≤ i then bs[i - a]? else none := by
  induction bs generalizing a with
  | nil => simp [Mem.ofBytes]
  | cons b rest ih =>
    simp only [Mem.ofBytes, Mem.read, ih]
    by_cases h : a = i
    · subst h
      simp
    · by_cases h' : a ≤ i
      · have h1 : a + 1 ≤ i := by omega
        have h2 : i - a = (i - (a + 1)) + 1 := by omega
        simp [h, h', h1, h2]
      · have h1 : ¬ a + 1 ≤ i := by omega
        simp [h, h', h1]

/-- Reading a buffer built from bytes at index 0. -/
@[simp] theorem Mem.read_ofBytes_zero (i : Nat) (bs : List Byte) : (Mem.ofBytes 0 bs).read i = bs[i]? := by
  simp [Mem.read_ofBytes]

/-- A buffer whose indices are `a`, `a + 1`, … is the one built from its bytes. -/
theorem Mem.eq_ofBytes_of_keys (m : Mem) (a n : Nat) (h : m.map Prod.fst = List.range' a n) :
    m = Mem.ofBytes a m.bytes := by
  induction m generalizing a n with
  | nil => rfl
  | cons c rest ih =>
    obtain ⟨k, d⟩ := c
    cases n with
    | zero => simp at h
    | succ n =>
      simp only [List.map_cons, List.range'_succ, List.cons.injEq] at h
      have := ih (a + 1) n h.2
      simp only [Mem.bytes, List.map_cons, Mem.ofBytes, h.1] at this ⊢
      rw [← this]

/-- A buffer whose indices are 0 to `n - 1` is the one built from its bytes. -/
theorem Mem.eq_ofBytes_of_range (m : Mem) (n : Nat) (h : m.map Prod.fst = List.range n) :
    m = Mem.ofBytes 0 m.bytes :=
  Mem.eq_ofBytes_of_keys m 0 n (by rw [h, List.range_eq_range'])

/-- The number of bytes of a buffer whose indices are 0 to `n - 1`. -/
theorem Mem.bytes_length_of_range (m : Mem) (n : Nat) (h : m.map Prod.fst = List.range n) : m.bytes.length = n := by
  have := congrArg List.length h
  simpa [Mem.bytes] using this

/-- Writing right after the last byte appends. -/
theorem Mem.write_ofBytes_end (a : Nat) (bs : List Byte) (b : Byte) :
    (Mem.ofBytes a bs).write (a + bs.length) b = Mem.ofBytes a (bs ++ [b]) := by
  induction bs generalizing a with
  | nil => rfl
  | cons c rest ih =>
    have h : a < a + (rest.length + 1) := by omega
    have e : a + (rest.length + 1) = a + 1 + rest.length := by omega
    simp only [Mem.ofBytes, Mem.write, List.length_cons, h, if_true, List.cons_append]
    rw [e, ih]

end Sys2Proof.Machine
end

