-- ==== Sys2Proof/Laws/State.lean ====
section
/-! SUPPORT. One lemma per field of State per update: what each state-building operation leaves in each field. Later
proofs cite these and never unfold an update. -/

namespace Sys2Proof.Machine

/-! ### setCrc -/

@[simp] theorem setCrc_crc (s : State) (v : Word) : (setCrc s v).crc = v := rfl
@[simp] theorem setCrc_err (s : State) (v : Word) : (setCrc s v).err = s.err := rfl
@[simp] theorem setCrc_trunc (s : State) (v : Word) : (setCrc s v).trunc = s.trunc := rfl
@[simp] theorem setCrc_syncOk (s : State) (v : Word) : (setCrc s v).syncOk = s.syncOk := rfl
@[simp] theorem setCrc_lenOk (s : State) (v : Word) : (setCrc s v).lenOk = s.lenOk := rfl
@[simp] theorem setCrc_rxDone (s : State) (v : Word) : (setCrc s v).rxDone = s.rxDone := rfl
@[simp] theorem setCrc_txOpcode (s : State) (v : Word) : (setCrc s v).txOpcode = s.txOpcode := rfl
@[simp] theorem setCrc_txLen (s : State) (v : Word) : (setCrc s v).txLen = s.txLen := rfl
@[simp] theorem setCrc_txIdx (s : State) (v : Word) : (setCrc s v).txIdx = s.txIdx := rfl
@[simp] theorem setCrc_txBusy (s : State) (v : Word) : (setCrc s v).txBusy = s.txBusy := rfl
@[simp] theorem setCrc_rxExpect (s : State) (v : Word) : (setCrc s v).rxExpect = s.rxExpect := rfl
@[simp] theorem setCrc_rxN (s : State) (v : Word) : (setCrc s v).rxN = s.rxN := rfl
@[simp] theorem setCrc_rxPlen (s : State) (v : Word) : (setCrc s v).rxPlen = s.rxPlen := rfl
@[simp] theorem setCrc_rxBusy (s : State) (v : Word) : (setCrc s v).rxBusy = s.rxBusy := rfl
@[simp] theorem setCrc_txbuf (s : State) (v : Word) : (setCrc s v).txbuf = s.txbuf := rfl
@[simp] theorem setCrc_rxbuf (s : State) (v : Word) : (setCrc s v).rxbuf = s.rxbuf := rfl
@[simp] theorem setCrc_txout (s : State) (v : Word) : (setCrc s v).txout = s.txout := rfl
@[simp] theorem setCrc_stream (s : State) (v : Word) : (setCrc s v).stream = s.stream := rfl
@[simp] theorem setCrc_session (s : State) (v : Word) : (setCrc s v).session = s.session := rfl
@[simp] theorem setCrc_verdicts (s : State) (v : Word) : (setCrc s v).verdicts = s.verdicts := rfl
@[simp] theorem setCrc_results (s : State) (v : Word) : (setCrc s v).results = s.results := rfl
@[simp] theorem setCrc_actions (s : State) (v : Word) : (setCrc s v).actions = s.actions := rfl
@[simp] theorem setCrc_resetInput (s : State) (v : Word) : (setCrc s v).resetInput = s.resetInput := rfl

/-! ### emit -/

@[simp] theorem emit_crc (s : State) (bs : List Byte) : (emit s bs).crc = s.crc := rfl
@[simp] theorem emit_err (s : State) (bs : List Byte) : (emit s bs).err = s.err := rfl
@[simp] theorem emit_trunc (s : State) (bs : List Byte) : (emit s bs).trunc = s.trunc := rfl
@[simp] theorem emit_syncOk (s : State) (bs : List Byte) : (emit s bs).syncOk = s.syncOk := rfl
@[simp] theorem emit_lenOk (s : State) (bs : List Byte) : (emit s bs).lenOk = s.lenOk := rfl
@[simp] theorem emit_rxDone (s : State) (bs : List Byte) : (emit s bs).rxDone = s.rxDone := rfl
@[simp] theorem emit_txOpcode (s : State) (bs : List Byte) : (emit s bs).txOpcode = s.txOpcode := rfl
@[simp] theorem emit_txLen (s : State) (bs : List Byte) : (emit s bs).txLen = s.txLen := rfl
@[simp] theorem emit_txIdx (s : State) (bs : List Byte) : (emit s bs).txIdx = s.txIdx := rfl
@[simp] theorem emit_txBusy (s : State) (bs : List Byte) : (emit s bs).txBusy = s.txBusy := rfl
@[simp] theorem emit_rxExpect (s : State) (bs : List Byte) : (emit s bs).rxExpect = s.rxExpect := rfl
@[simp] theorem emit_rxN (s : State) (bs : List Byte) : (emit s bs).rxN = s.rxN := rfl
@[simp] theorem emit_rxPlen (s : State) (bs : List Byte) : (emit s bs).rxPlen = s.rxPlen := rfl
@[simp] theorem emit_rxBusy (s : State) (bs : List Byte) : (emit s bs).rxBusy = s.rxBusy := rfl
@[simp] theorem emit_txbuf (s : State) (bs : List Byte) : (emit s bs).txbuf = s.txbuf := rfl
@[simp] theorem emit_rxbuf (s : State) (bs : List Byte) : (emit s bs).rxbuf = s.rxbuf := rfl
@[simp] theorem emit_txout (s : State) (bs : List Byte) : (emit s bs).txout = s.txout ++ bs := rfl
@[simp] theorem emit_stream (s : State) (bs : List Byte) : (emit s bs).stream = s.stream := rfl
@[simp] theorem emit_session (s : State) (bs : List Byte) : (emit s bs).session = s.session := rfl
@[simp] theorem emit_verdicts (s : State) (bs : List Byte) : (emit s bs).verdicts = s.verdicts := rfl
@[simp] theorem emit_results (s : State) (bs : List Byte) : (emit s bs).results = s.results := rfl
@[simp] theorem emit_actions (s : State) (bs : List Byte) : (emit s bs).actions = s.actions := rfl
@[simp] theorem emit_resetInput (s : State) (bs : List Byte) : (emit s bs).resetInput = s.resetInput := rfl

/-! ### reportVerdict -/

@[simp] theorem reportVerdict_crc (s : State) (a b : Bool) (v : Except ErrorKind Nat) :
    (reportVerdict s a b v).crc = s.crc := rfl
@[simp] theorem reportVerdict_err (s : State) (a b : Bool) (v : Except ErrorKind Nat) :
    (reportVerdict s a b v).err = verdictErr v := rfl
@[simp] theorem reportVerdict_trunc (s : State) (a b : Bool) (v : Except ErrorKind Nat) :
    (reportVerdict s a b v).trunc = s.trunc := rfl
@[simp] theorem reportVerdict_syncOk (s : State) (a b : Bool) (v : Except ErrorKind Nat) :
    (reportVerdict s a b v).syncOk = a := rfl
@[simp] theorem reportVerdict_lenOk (s : State) (a b : Bool) (v : Except ErrorKind Nat) :
    (reportVerdict s a b v).lenOk = b := rfl
@[simp] theorem reportVerdict_rxDone (s : State) (a b : Bool) (v : Except ErrorKind Nat) :
    (reportVerdict s a b v).rxDone = true := rfl
@[simp] theorem reportVerdict_txOpcode (s : State) (a b : Bool) (v : Except ErrorKind Nat) :
    (reportVerdict s a b v).txOpcode = s.txOpcode := rfl
@[simp] theorem reportVerdict_txLen (s : State) (a b : Bool) (v : Except ErrorKind Nat) :
    (reportVerdict s a b v).txLen = s.txLen := rfl
@[simp] theorem reportVerdict_txIdx (s : State) (a b : Bool) (v : Except ErrorKind Nat) :
    (reportVerdict s a b v).txIdx = s.txIdx := rfl
@[simp] theorem reportVerdict_txBusy (s : State) (a b : Bool) (v : Except ErrorKind Nat) :
    (reportVerdict s a b v).txBusy = s.txBusy := rfl
@[simp] theorem reportVerdict_rxExpect (s : State) (a b : Bool) (v : Except ErrorKind Nat) :
    (reportVerdict s a b v).rxExpect = s.rxExpect := rfl
@[simp] theorem reportVerdict_rxN (s : State) (a b : Bool) (v : Except ErrorKind Nat) :
    (reportVerdict s a b v).rxN = s.rxN := rfl
@[simp] theorem reportVerdict_rxPlen (s : State) (a b : Bool) (v : Except ErrorKind Nat) :
    (reportVerdict s a b v).rxPlen = verdictLen v := rfl
@[simp] theorem reportVerdict_rxBusy (s : State) (a b : Bool) (v : Except ErrorKind Nat) :
    (reportVerdict s a b v).rxBusy = false := rfl
@[simp] theorem reportVerdict_txbuf (s : State) (a b : Bool) (v : Except ErrorKind Nat) :
    (reportVerdict s a b v).txbuf = s.txbuf := rfl
@[simp] theorem reportVerdict_rxbuf (s : State) (a b : Bool) (v : Except ErrorKind Nat) :
    (reportVerdict s a b v).rxbuf = s.rxbuf := rfl
@[simp] theorem reportVerdict_txout (s : State) (a b : Bool) (v : Except ErrorKind Nat) :
    (reportVerdict s a b v).txout = s.txout := rfl
@[simp] theorem reportVerdict_stream (s : State) (a b : Bool) (v : Except ErrorKind Nat) :
    (reportVerdict s a b v).stream = s.stream := rfl
@[simp] theorem reportVerdict_session (s : State) (a b : Bool) (v : Except ErrorKind Nat) :
    (reportVerdict s a b v).session = s.session := rfl
@[simp] theorem reportVerdict_verdicts (s : State) (a b : Bool) (v : Except ErrorKind Nat) :
    (reportVerdict s a b v).verdicts =
      s.verdicts ++ [{ err := verdictErr v, syncOk := a, lenOk := b, plen := verdictLen v }] := rfl
@[simp] theorem reportVerdict_results (s : State) (a b : Bool) (v : Except ErrorKind Nat) :
    (reportVerdict s a b v).results = s.results := rfl
@[simp] theorem reportVerdict_actions (s : State) (a b : Bool) (v : Except ErrorKind Nat) :
    (reportVerdict s a b v).actions = s.actions := rfl
@[simp] theorem reportVerdict_resetInput (s : State) (a b : Bool) (v : Except ErrorKind Nat) :
    (reportVerdict s a b v).resetInput = s.resetInput := rfl

/-! ### clearVerdict -/

@[simp] theorem clearVerdict_crc (s : State) : (clearVerdict s).crc = s.crc := rfl
@[simp] theorem clearVerdict_err (s : State) : (clearVerdict s).err = 0#3 := rfl
@[simp] theorem clearVerdict_trunc (s : State) : (clearVerdict s).trunc = s.trunc := rfl
@[simp] theorem clearVerdict_syncOk (s : State) : (clearVerdict s).syncOk = false := rfl
@[simp] theorem clearVerdict_lenOk (s : State) : (clearVerdict s).lenOk = false := rfl
@[simp] theorem clearVerdict_rxDone (s : State) : (clearVerdict s).rxDone = false := rfl
@[simp] theorem clearVerdict_txOpcode (s : State) : (clearVerdict s).txOpcode = s.txOpcode := rfl
@[simp] theorem clearVerdict_txLen (s : State) : (clearVerdict s).txLen = s.txLen := rfl
@[simp] theorem clearVerdict_txIdx (s : State) : (clearVerdict s).txIdx = s.txIdx := rfl
@[simp] theorem clearVerdict_txBusy (s : State) : (clearVerdict s).txBusy = s.txBusy := rfl
@[simp] theorem clearVerdict_rxExpect (s : State) : (clearVerdict s).rxExpect = s.rxExpect := rfl
@[simp] theorem clearVerdict_rxN (s : State) : (clearVerdict s).rxN = 0#17 := rfl
@[simp] theorem clearVerdict_rxPlen (s : State) : (clearVerdict s).rxPlen = 0#16 := rfl
@[simp] theorem clearVerdict_rxBusy (s : State) : (clearVerdict s).rxBusy = s.rxBusy := rfl
@[simp] theorem clearVerdict_txbuf (s : State) : (clearVerdict s).txbuf = s.txbuf := rfl
@[simp] theorem clearVerdict_rxbuf (s : State) : (clearVerdict s).rxbuf = [] := rfl
@[simp] theorem clearVerdict_txout (s : State) : (clearVerdict s).txout = s.txout := rfl
@[simp] theorem clearVerdict_stream (s : State) : (clearVerdict s).stream = s.stream := rfl
@[simp] theorem clearVerdict_session (s : State) : (clearVerdict s).session = s.session := rfl
@[simp] theorem clearVerdict_verdicts (s : State) : (clearVerdict s).verdicts = s.verdicts := rfl
@[simp] theorem clearVerdict_results (s : State) : (clearVerdict s).results = s.results := rfl
@[simp] theorem clearVerdict_actions (s : State) : (clearVerdict s).actions = s.actions := rfl
@[simp] theorem clearVerdict_resetInput (s : State) : (clearVerdict s).resetInput = s.resetInput := rfl

/-! ### assertReset -/

@[simp] theorem assertReset_crc (s : State) : (assertReset s).crc = State.reset.crc := rfl
@[simp] theorem assertReset_err (s : State) : (assertReset s).err = State.reset.err := rfl
@[simp] theorem assertReset_trunc (s : State) : (assertReset s).trunc = State.reset.trunc := rfl
@[simp] theorem assertReset_syncOk (s : State) : (assertReset s).syncOk = State.reset.syncOk := rfl
@[simp] theorem assertReset_lenOk (s : State) : (assertReset s).lenOk = State.reset.lenOk := rfl
@[simp] theorem assertReset_rxDone (s : State) : (assertReset s).rxDone = State.reset.rxDone := rfl
@[simp] theorem assertReset_txOpcode (s : State) : (assertReset s).txOpcode = State.reset.txOpcode := rfl
@[simp] theorem assertReset_txLen (s : State) : (assertReset s).txLen = State.reset.txLen := rfl
@[simp] theorem assertReset_txIdx (s : State) : (assertReset s).txIdx = State.reset.txIdx := rfl
@[simp] theorem assertReset_txBusy (s : State) : (assertReset s).txBusy = State.reset.txBusy := rfl
@[simp] theorem assertReset_rxExpect (s : State) : (assertReset s).rxExpect = State.reset.rxExpect := rfl
@[simp] theorem assertReset_rxN (s : State) : (assertReset s).rxN = State.reset.rxN := rfl
@[simp] theorem assertReset_rxPlen (s : State) : (assertReset s).rxPlen = State.reset.rxPlen := rfl
@[simp] theorem assertReset_rxBusy (s : State) : (assertReset s).rxBusy = State.reset.rxBusy := rfl
@[simp] theorem assertReset_txbuf (s : State) : (assertReset s).txbuf = State.reset.txbuf := rfl
@[simp] theorem assertReset_rxbuf (s : State) : (assertReset s).rxbuf = State.reset.rxbuf := rfl
@[simp] theorem assertReset_txout (s : State) : (assertReset s).txout = s.txout := rfl
@[simp] theorem assertReset_stream (s : State) : (assertReset s).stream = s.stream.closed := rfl
@[simp] theorem assertReset_session (s : State) : (assertReset s).session = s.session.map fun _ => Session.idle := rfl
@[simp] theorem assertReset_verdicts (s : State) : (assertReset s).verdicts = s.verdicts := rfl
@[simp] theorem assertReset_results (s : State) : (assertReset s).results = s.results := rfl
@[simp] theorem assertReset_actions (s : State) : (assertReset s).actions = s.actions := rfl
@[simp] theorem assertReset_resetInput (s : State) : (assertReset s).resetInput = State.reset.resetInput := rfl

/-! ### setTxn -/

@[simp] theorem setTxn_crc (s : State) (o : Option Txn) : (setTxn s o).crc = s.crc := rfl
@[simp] theorem setTxn_err (s : State) (o : Option Txn) : (setTxn s o).err = s.err := rfl
@[simp] theorem setTxn_trunc (s : State) (o : Option Txn) : (setTxn s o).trunc = s.trunc := rfl
@[simp] theorem setTxn_syncOk (s : State) (o : Option Txn) : (setTxn s o).syncOk = s.syncOk := rfl
@[simp] theorem setTxn_lenOk (s : State) (o : Option Txn) : (setTxn s o).lenOk = s.lenOk := rfl
@[simp] theorem setTxn_rxDone (s : State) (o : Option Txn) : (setTxn s o).rxDone = s.rxDone := rfl
@[simp] theorem setTxn_txOpcode (s : State) (o : Option Txn) : (setTxn s o).txOpcode = s.txOpcode := rfl
@[simp] theorem setTxn_txLen (s : State) (o : Option Txn) : (setTxn s o).txLen = s.txLen := rfl
@[simp] theorem setTxn_txIdx (s : State) (o : Option Txn) : (setTxn s o).txIdx = s.txIdx := rfl
@[simp] theorem setTxn_txBusy (s : State) (o : Option Txn) : (setTxn s o).txBusy = s.txBusy := rfl
@[simp] theorem setTxn_rxExpect (s : State) (o : Option Txn) : (setTxn s o).rxExpect = s.rxExpect := rfl
@[simp] theorem setTxn_rxN (s : State) (o : Option Txn) : (setTxn s o).rxN = s.rxN := rfl
@[simp] theorem setTxn_rxPlen (s : State) (o : Option Txn) : (setTxn s o).rxPlen = s.rxPlen := rfl
@[simp] theorem setTxn_rxBusy (s : State) (o : Option Txn) : (setTxn s o).rxBusy = s.rxBusy := rfl
@[simp] theorem setTxn_txbuf (s : State) (o : Option Txn) : (setTxn s o).txbuf = s.txbuf := rfl
@[simp] theorem setTxn_rxbuf (s : State) (o : Option Txn) : (setTxn s o).rxbuf = s.rxbuf := rfl
@[simp] theorem setTxn_txout (s : State) (o : Option Txn) : (setTxn s o).txout = s.txout := rfl
@[simp] theorem setTxn_stream (s : State) (o : Option Txn) : (setTxn s o).stream = s.stream := rfl
@[simp] theorem setTxn_session (s : State) (o : Option Txn) : (setTxn s o).session = some { txn := o } := rfl
@[simp] theorem setTxn_verdicts (s : State) (o : Option Txn) : (setTxn s o).verdicts = s.verdicts := rfl
@[simp] theorem setTxn_results (s : State) (o : Option Txn) : (setTxn s o).results = s.results := rfl
@[simp] theorem setTxn_actions (s : State) (o : Option Txn) : (setTxn s o).actions = s.actions := rfl
@[simp] theorem setTxn_resetInput (s : State) (o : Option Txn) : (setTxn s o).resetInput = s.resetInput := rfl

/-! ### loadFrame -/

@[simp] theorem loadFrame_crc (s : State) (opcode : Byte) (payload : List Byte) :
    (loadFrame s opcode payload).crc = s.crc := rfl
@[simp] theorem loadFrame_err (s : State) (opcode : Byte) (payload : List Byte) :
    (loadFrame s opcode payload).err = s.err := rfl
@[simp] theorem loadFrame_trunc (s : State) (opcode : Byte) (payload : List Byte) :
    (loadFrame s opcode payload).trunc = truncFlag opcode payload := rfl
@[simp] theorem loadFrame_syncOk (s : State) (opcode : Byte) (payload : List Byte) :
    (loadFrame s opcode payload).syncOk = s.syncOk := rfl
@[simp] theorem loadFrame_lenOk (s : State) (opcode : Byte) (payload : List Byte) :
    (loadFrame s opcode payload).lenOk = s.lenOk := rfl
@[simp] theorem loadFrame_rxDone (s : State) (opcode : Byte) (payload : List Byte) :
    (loadFrame s opcode payload).rxDone = s.rxDone := rfl
@[simp] theorem loadFrame_txOpcode (s : State) (opcode : Byte) (payload : List Byte) :
    (loadFrame s opcode payload).txOpcode = opcode := rfl
@[simp] theorem loadFrame_txLen (s : State) (opcode : Byte) (payload : List Byte) :
    (loadFrame s opcode payload).txLen = BitVec.ofNat 16 (truncate opcode payload).length := rfl
@[simp] theorem loadFrame_txIdx (s : State) (opcode : Byte) (payload : List Byte) :
    (loadFrame s opcode payload).txIdx = s.txIdx := rfl
@[simp] theorem loadFrame_txBusy (s : State) (opcode : Byte) (payload : List Byte) :
    (loadFrame s opcode payload).txBusy = s.txBusy := rfl
@[simp] theorem loadFrame_rxExpect (s : State) (opcode : Byte) (payload : List Byte) :
    (loadFrame s opcode payload).rxExpect = s.rxExpect := rfl
@[simp] theorem loadFrame_rxN (s : State) (opcode : Byte) (payload : List Byte) :
    (loadFrame s opcode payload).rxN = s.rxN := rfl
@[simp] theorem loadFrame_rxPlen (s : State) (opcode : Byte) (payload : List Byte) :
    (loadFrame s opcode payload).rxPlen = s.rxPlen := rfl
@[simp] theorem loadFrame_rxBusy (s : State) (opcode : Byte) (payload : List Byte) :
    (loadFrame s opcode payload).rxBusy = s.rxBusy := rfl
@[simp] theorem loadFrame_txbuf (s : State) (opcode : Byte) (payload : List Byte) :
    (loadFrame s opcode payload).txbuf = Mem.ofBytes 0 (truncate opcode payload) := rfl
@[simp] theorem loadFrame_rxbuf (s : State) (opcode : Byte) (payload : List Byte) :
    (loadFrame s opcode payload).rxbuf = s.rxbuf := rfl
@[simp] theorem loadFrame_txout (s : State) (opcode : Byte) (payload : List Byte) :
    (loadFrame s opcode payload).txout = s.txout := rfl
@[simp] theorem loadFrame_stream (s : State) (opcode : Byte) (payload : List Byte) :
    (loadFrame s opcode payload).stream = s.stream := rfl
@[simp] theorem loadFrame_session (s : State) (opcode : Byte) (payload : List Byte) :
    (loadFrame s opcode payload).session = s.session := rfl
@[simp] theorem loadFrame_verdicts (s : State) (opcode : Byte) (payload : List Byte) :
    (loadFrame s opcode payload).verdicts = s.verdicts := rfl
@[simp] theorem loadFrame_results (s : State) (opcode : Byte) (payload : List Byte) :
    (loadFrame s opcode payload).results = s.results := rfl
@[simp] theorem loadFrame_actions (s : State) (opcode : Byte) (payload : List Byte) :
    (loadFrame s opcode payload).actions = s.actions := rfl
@[simp] theorem loadFrame_resetInput (s : State) (opcode : Byte) (payload : List Byte) :
    (loadFrame s opcode payload).resetInput = s.resetInput := rfl

/-! ### sendWhole -/

@[simp] theorem sendWhole_crc (s : State) (opcode : Byte) (payload : List Byte) :
    (sendWhole s opcode payload).crc = trailer (encodeFrame opcode payload) := rfl
@[simp] theorem sendWhole_err (s : State) (opcode : Byte) (payload : List Byte) :
    (sendWhole s opcode payload).err = s.err := rfl
@[simp] theorem sendWhole_trunc (s : State) (opcode : Byte) (payload : List Byte) :
    (sendWhole s opcode payload).trunc = truncFlag opcode payload := rfl
@[simp] theorem sendWhole_syncOk (s : State) (opcode : Byte) (payload : List Byte) :
    (sendWhole s opcode payload).syncOk = s.syncOk := rfl
@[simp] theorem sendWhole_lenOk (s : State) (opcode : Byte) (payload : List Byte) :
    (sendWhole s opcode payload).lenOk = s.lenOk := rfl
@[simp] theorem sendWhole_rxDone (s : State) (opcode : Byte) (payload : List Byte) :
    (sendWhole s opcode payload).rxDone = s.rxDone := rfl
@[simp] theorem sendWhole_txOpcode (s : State) (opcode : Byte) (payload : List Byte) :
    (sendWhole s opcode payload).txOpcode = opcode := rfl
@[simp] theorem sendWhole_txLen (s : State) (opcode : Byte) (payload : List Byte) :
    (sendWhole s opcode payload).txLen = BitVec.ofNat 16 (truncate opcode payload).length := rfl
@[simp] theorem sendWhole_txIdx (s : State) (opcode : Byte) (payload : List Byte) :
    (sendWhole s opcode payload).txIdx = BitVec.ofNat 17 ((truncate opcode payload).length + 7) := rfl
@[simp] theorem sendWhole_txBusy (s : State) (opcode : Byte) (payload : List Byte) :
    (sendWhole s opcode payload).txBusy = false := rfl
@[simp] theorem sendWhole_rxExpect (s : State) (opcode : Byte) (payload : List Byte) :
    (sendWhole s opcode payload).rxExpect = s.rxExpect := rfl
@[simp] theorem sendWhole_rxN (s : State) (opcode : Byte) (payload : List Byte) :
    (sendWhole s opcode payload).rxN = s.rxN := rfl
@[simp] theorem sendWhole_rxPlen (s : State) (opcode : Byte) (payload : List Byte) :
    (sendWhole s opcode payload).rxPlen = s.rxPlen := rfl
@[simp] theorem sendWhole_rxBusy (s : State) (opcode : Byte) (payload : List Byte) :
    (sendWhole s opcode payload).rxBusy = s.rxBusy := rfl
@[simp] theorem sendWhole_txbuf (s : State) (opcode : Byte) (payload : List Byte) :
    (sendWhole s opcode payload).txbuf = Mem.ofBytes 0 (truncate opcode payload) := rfl
@[simp] theorem sendWhole_rxbuf (s : State) (opcode : Byte) (payload : List Byte) :
    (sendWhole s opcode payload).rxbuf = s.rxbuf := rfl
@[simp] theorem sendWhole_txout (s : State) (opcode : Byte) (payload : List Byte) :
    (sendWhole s opcode payload).txout = s.txout ++ encodeFrame opcode payload := rfl
@[simp] theorem sendWhole_stream (s : State) (opcode : Byte) (payload : List Byte) :
    (sendWhole s opcode payload).stream = s.stream := rfl
@[simp] theorem sendWhole_session (s : State) (opcode : Byte) (payload : List Byte) :
    (sendWhole s opcode payload).session = s.session := rfl
@[simp] theorem sendWhole_verdicts (s : State) (opcode : Byte) (payload : List Byte) :
    (sendWhole s opcode payload).verdicts = s.verdicts := rfl
@[simp] theorem sendWhole_results (s : State) (opcode : Byte) (payload : List Byte) :
    (sendWhole s opcode payload).results = s.results := rfl
@[simp] theorem sendWhole_actions (s : State) (opcode : Byte) (payload : List Byte) :
    (sendWhole s opcode payload).actions = s.actions := rfl
@[simp] theorem sendWhole_resetInput (s : State) (opcode : Byte) (payload : List Byte) :
    (sendWhole s opcode payload).resetInput = s.resetInput := rfl

/-! ### sendStart -/

@[simp] theorem sendStart_crc (s : State) (opcode : Byte) (payload : List Byte) :
    (sendStart s opcode payload).crc = Config.seedInit := rfl
@[simp] theorem sendStart_err (s : State) (opcode : Byte) (payload : List Byte) :
    (sendStart s opcode payload).err = s.err := rfl
@[simp] theorem sendStart_trunc (s : State) (opcode : Byte) (payload : List Byte) :
    (sendStart s opcode payload).trunc = truncFlag opcode payload := rfl
@[simp] theorem sendStart_syncOk (s : State) (opcode : Byte) (payload : List Byte) :
    (sendStart s opcode payload).syncOk = s.syncOk := rfl
@[simp] theorem sendStart_lenOk (s : State) (opcode : Byte) (payload : List Byte) :
    (sendStart s opcode payload).lenOk = s.lenOk := rfl
@[simp] theorem sendStart_rxDone (s : State) (opcode : Byte) (payload : List Byte) :
    (sendStart s opcode payload).rxDone = s.rxDone := rfl
@[simp] theorem sendStart_txOpcode (s : State) (opcode : Byte) (payload : List Byte) :
    (sendStart s opcode payload).txOpcode = opcode := rfl
@[simp] theorem sendStart_txLen (s : State) (opcode : Byte) (payload : List Byte) :
    (sendStart s opcode payload).txLen = BitVec.ofNat 16 (truncate opcode payload).length := rfl
@[simp] theorem sendStart_txIdx (s : State) (opcode : Byte) (payload : List Byte) :
    (sendStart s opcode payload).txIdx = 0#17 := rfl
@[simp] theorem sendStart_txBusy (s : State) (opcode : Byte) (payload : List Byte) :
    (sendStart s opcode payload).txBusy = true := rfl
@[simp] theorem sendStart_rxExpect (s : State) (opcode : Byte) (payload : List Byte) :
    (sendStart s opcode payload).rxExpect = s.rxExpect := rfl
@[simp] theorem sendStart_rxN (s : State) (opcode : Byte) (payload : List Byte) :
    (sendStart s opcode payload).rxN = s.rxN := rfl
@[simp] theorem sendStart_rxPlen (s : State) (opcode : Byte) (payload : List Byte) :
    (sendStart s opcode payload).rxPlen = s.rxPlen := rfl
@[simp] theorem sendStart_rxBusy (s : State) (opcode : Byte) (payload : List Byte) :
    (sendStart s opcode payload).rxBusy = s.rxBusy := rfl
@[simp] theorem sendStart_txbuf (s : State) (opcode : Byte) (payload : List Byte) :
    (sendStart s opcode payload).txbuf = Mem.ofBytes 0 (truncate opcode payload) := rfl
@[simp] theorem sendStart_rxbuf (s : State) (opcode : Byte) (payload : List Byte) :
    (sendStart s opcode payload).rxbuf = s.rxbuf := rfl
@[simp] theorem sendStart_txout (s : State) (opcode : Byte) (payload : List Byte) :
    (sendStart s opcode payload).txout = s.txout := rfl
@[simp] theorem sendStart_stream (s : State) (opcode : Byte) (payload : List Byte) :
    (sendStart s opcode payload).stream = s.stream := rfl
@[simp] theorem sendStart_session (s : State) (opcode : Byte) (payload : List Byte) :
    (sendStart s opcode payload).session = s.session := rfl
@[simp] theorem sendStart_verdicts (s : State) (opcode : Byte) (payload : List Byte) :
    (sendStart s opcode payload).verdicts = s.verdicts := rfl
@[simp] theorem sendStart_results (s : State) (opcode : Byte) (payload : List Byte) :
    (sendStart s opcode payload).results = s.results := rfl
@[simp] theorem sendStart_actions (s : State) (opcode : Byte) (payload : List Byte) :
    (sendStart s opcode payload).actions = s.actions := rfl
@[simp] theorem sendStart_resetInput (s : State) (opcode : Byte) (payload : List Byte) :
    (sendStart s opcode payload).resetInput = s.resetInput := rfl

/-! ### sendByte -/

@[simp] theorem sendByte_crc (s : State) (b : Byte) :
    (sendByte s b).crc = if (txPhase s.txIdx.toNat s.txLen.toNat).folds then crcUpdate s.crc b else s.crc := rfl
@[simp] theorem sendByte_err (s : State) (b : Byte) : (sendByte s b).err = s.err := rfl
@[simp] theorem sendByte_trunc (s : State) (b : Byte) : (sendByte s b).trunc = s.trunc := rfl
@[simp] theorem sendByte_syncOk (s : State) (b : Byte) : (sendByte s b).syncOk = s.syncOk := rfl
@[simp] theorem sendByte_lenOk (s : State) (b : Byte) : (sendByte s b).lenOk = s.lenOk := rfl
@[simp] theorem sendByte_rxDone (s : State) (b : Byte) : (sendByte s b).rxDone = s.rxDone := rfl
@[simp] theorem sendByte_txOpcode (s : State) (b : Byte) : (sendByte s b).txOpcode = s.txOpcode := rfl
@[simp] theorem sendByte_txLen (s : State) (b : Byte) : (sendByte s b).txLen = s.txLen := rfl
@[simp] theorem sendByte_txIdx (s : State) (b : Byte) : (sendByte s b).txIdx = s.txIdx + 1#17 := rfl
@[simp] theorem sendByte_txBusy (s : State) (b : Byte) :
    (sendByte s b).txBusy = if s.txIdx.toNat + 1 = s.txLen.toNat + 7 then false else s.txBusy := rfl
@[simp] theorem sendByte_rxExpect (s : State) (b : Byte) : (sendByte s b).rxExpect = s.rxExpect := rfl
@[simp] theorem sendByte_rxN (s : State) (b : Byte) : (sendByte s b).rxN = s.rxN := rfl
@[simp] theorem sendByte_rxPlen (s : State) (b : Byte) : (sendByte s b).rxPlen = s.rxPlen := rfl
@[simp] theorem sendByte_rxBusy (s : State) (b : Byte) : (sendByte s b).rxBusy = s.rxBusy := rfl
@[simp] theorem sendByte_txbuf (s : State) (b : Byte) : (sendByte s b).txbuf = s.txbuf := rfl
@[simp] theorem sendByte_rxbuf (s : State) (b : Byte) : (sendByte s b).rxbuf = s.rxbuf := rfl
@[simp] theorem sendByte_txout (s : State) (b : Byte) : (sendByte s b).txout = s.txout ++ [b] := rfl
@[simp] theorem sendByte_stream (s : State) (b : Byte) : (sendByte s b).stream = s.stream := rfl
@[simp] theorem sendByte_session (s : State) (b : Byte) : (sendByte s b).session = s.session := rfl
@[simp] theorem sendByte_verdicts (s : State) (b : Byte) : (sendByte s b).verdicts = s.verdicts := rfl
@[simp] theorem sendByte_results (s : State) (b : Byte) : (sendByte s b).results = s.results := rfl
@[simp] theorem sendByte_actions (s : State) (b : Byte) : (sendByte s b).actions = s.actions := rfl
@[simp] theorem sendByte_resetInput (s : State) (b : Byte) : (sendByte s b).resetInput = s.resetInput := rfl

/-! ### loadBuffer -/

@[simp] theorem loadBuffer_crc (s : State) (expect : Byte) (buf : List Byte) :
    (loadBuffer s expect buf).crc = receivedCrc buf := rfl
@[simp] theorem loadBuffer_err (s : State) (expect : Byte) (buf : List Byte) :
    (loadBuffer s expect buf).err = s.err := rfl
@[simp] theorem loadBuffer_trunc (s : State) (expect : Byte) (buf : List Byte) :
    (loadBuffer s expect buf).trunc = s.trunc := rfl
@[simp] theorem loadBuffer_syncOk (s : State) (expect : Byte) (buf : List Byte) :
    (loadBuffer s expect buf).syncOk = s.syncOk := rfl
@[simp] theorem loadBuffer_lenOk (s : State) (expect : Byte) (buf : List Byte) :
    (loadBuffer s expect buf).lenOk = s.lenOk := rfl
@[simp] theorem loadBuffer_rxDone (s : State) (expect : Byte) (buf : List Byte) :
    (loadBuffer s expect buf).rxDone = s.rxDone := rfl
@[simp] theorem loadBuffer_txOpcode (s : State) (expect : Byte) (buf : List Byte) :
    (loadBuffer s expect buf).txOpcode = s.txOpcode := rfl
@[simp] theorem loadBuffer_txLen (s : State) (expect : Byte) (buf : List Byte) :
    (loadBuffer s expect buf).txLen = s.txLen := rfl
@[simp] theorem loadBuffer_txIdx (s : State) (expect : Byte) (buf : List Byte) :
    (loadBuffer s expect buf).txIdx = s.txIdx := rfl
@[simp] theorem loadBuffer_txBusy (s : State) (expect : Byte) (buf : List Byte) :
    (loadBuffer s expect buf).txBusy = s.txBusy := rfl
@[simp] theorem loadBuffer_rxExpect (s : State) (expect : Byte) (buf : List Byte) :
    (loadBuffer s expect buf).rxExpect = expect := rfl
@[simp] theorem loadBuffer_rxN (s : State) (expect : Byte) (buf : List Byte) :
    (loadBuffer s expect buf).rxN = BitVec.ofNat 17 buf.length := rfl
@[simp] theorem loadBuffer_rxPlen (s : State) (expect : Byte) (buf : List Byte) :
    (loadBuffer s expect buf).rxPlen = s.rxPlen := rfl
@[simp] theorem loadBuffer_rxBusy (s : State) (expect : Byte) (buf : List Byte) :
    (loadBuffer s expect buf).rxBusy = s.rxBusy := rfl
@[simp] theorem loadBuffer_txbuf (s : State) (expect : Byte) (buf : List Byte) :
    (loadBuffer s expect buf).txbuf = s.txbuf := rfl
@[simp] theorem loadBuffer_rxbuf (s : State) (expect : Byte) (buf : List Byte) :
    (loadBuffer s expect buf).rxbuf = Mem.ofBytes 0 buf := rfl
@[simp] theorem loadBuffer_txout (s : State) (expect : Byte) (buf : List Byte) :
    (loadBuffer s expect buf).txout = s.txout := rfl
@[simp] theorem loadBuffer_stream (s : State) (expect : Byte) (buf : List Byte) :
    (loadBuffer s expect buf).stream = s.stream := rfl
@[simp] theorem loadBuffer_session (s : State) (expect : Byte) (buf : List Byte) :
    (loadBuffer s expect buf).session = s.session := rfl
@[simp] theorem loadBuffer_verdicts (s : State) (expect : Byte) (buf : List Byte) :
    (loadBuffer s expect buf).verdicts = s.verdicts := rfl
@[simp] theorem loadBuffer_results (s : State) (expect : Byte) (buf : List Byte) :
    (loadBuffer s expect buf).results = s.results := rfl
@[simp] theorem loadBuffer_actions (s : State) (expect : Byte) (buf : List Byte) :
    (loadBuffer s expect buf).actions = s.actions := rfl
@[simp] theorem loadBuffer_resetInput (s : State) (expect : Byte) (buf : List Byte) :
    (loadBuffer s expect buf).resetInput = s.resetInput := rfl

/-! ### receiveStart -/

@[simp] theorem receiveStart_crc (s : State) (expect : Byte) : (receiveStart s expect).crc = Config.seedInit := rfl
@[simp] theorem receiveStart_err (s : State) (expect : Byte) : (receiveStart s expect).err = 0#3 := rfl
@[simp] theorem receiveStart_trunc (s : State) (expect : Byte) : (receiveStart s expect).trunc = s.trunc := rfl
@[simp] theorem receiveStart_syncOk (s : State) (expect : Byte) : (receiveStart s expect).syncOk = false := rfl
@[simp] theorem receiveStart_lenOk (s : State) (expect : Byte) : (receiveStart s expect).lenOk = false := rfl
@[simp] theorem receiveStart_rxDone (s : State) (expect : Byte) : (receiveStart s expect).rxDone = false := rfl
@[simp] theorem receiveStart_txOpcode (s : State) (expect : Byte) :
    (receiveStart s expect).txOpcode = s.txOpcode := rfl
@[simp] theorem receiveStart_txLen (s : State) (expect : Byte) : (receiveStart s expect).txLen = s.txLen := rfl
@[simp] theorem receiveStart_txIdx (s : State) (expect : Byte) : (receiveStart s expect).txIdx = s.txIdx := rfl
@[simp] theorem receiveStart_txBusy (s : State) (expect : Byte) : (receiveStart s expect).txBusy = s.txBusy := rfl
@[simp] theorem receiveStart_rxExpect (s : State) (expect : Byte) : (receiveStart s expect).rxExpect = expect := rfl
@[simp] theorem receiveStart_rxN (s : State) (expect : Byte) : (receiveStart s expect).rxN = 0#17 := rfl
@[simp] theorem receiveStart_rxPlen (s : State) (expect : Byte) : (receiveStart s expect).rxPlen = 0#16 := rfl
@[simp] theorem receiveStart_rxBusy (s : State) (expect : Byte) : (receiveStart s expect).rxBusy = true := rfl
@[simp] theorem receiveStart_txbuf (s : State) (expect : Byte) : (receiveStart s expect).txbuf = s.txbuf := rfl
@[simp] theorem receiveStart_rxbuf (s : State) (expect : Byte) : (receiveStart s expect).rxbuf = [] := rfl
@[simp] theorem receiveStart_txout (s : State) (expect : Byte) : (receiveStart s expect).txout = s.txout := rfl
@[simp] theorem receiveStart_stream (s : State) (expect : Byte) : (receiveStart s expect).stream = s.stream := rfl
@[simp] theorem receiveStart_session (s : State) (expect : Byte) : (receiveStart s expect).session = s.session := rfl
@[simp] theorem receiveStart_verdicts (s : State) (expect : Byte) :
    (receiveStart s expect).verdicts = s.verdicts := rfl
@[simp] theorem receiveStart_results (s : State) (expect : Byte) : (receiveStart s expect).results = s.results := rfl
@[simp] theorem receiveStart_actions (s : State) (expect : Byte) : (receiveStart s expect).actions = s.actions := rfl
@[simp] theorem receiveStart_resetInput (s : State) (expect : Byte) :
    (receiveStart s expect).resetInput = s.resetInput := rfl

/-! ### receiveByte -/

@[simp] theorem receiveByte_crc (s : State) (b : Byte) (c : Word) : (receiveByte s b c).crc = c := rfl
@[simp] theorem receiveByte_err (s : State) (b : Byte) (c : Word) : (receiveByte s b c).err = s.err := rfl
@[simp] theorem receiveByte_trunc (s : State) (b : Byte) (c : Word) : (receiveByte s b c).trunc = s.trunc := rfl
@[simp] theorem receiveByte_syncOk (s : State) (b : Byte) (c : Word) : (receiveByte s b c).syncOk = s.syncOk := rfl
@[simp] theorem receiveByte_lenOk (s : State) (b : Byte) (c : Word) : (receiveByte s b c).lenOk = s.lenOk := rfl
@[simp] theorem receiveByte_rxDone (s : State) (b : Byte) (c : Word) : (receiveByte s b c).rxDone = s.rxDone := rfl
@[simp] theorem receiveByte_txOpcode (s : State) (b : Byte) (c : Word) :
    (receiveByte s b c).txOpcode = s.txOpcode := rfl
@[simp] theorem receiveByte_txLen (s : State) (b : Byte) (c : Word) : (receiveByte s b c).txLen = s.txLen := rfl
@[simp] theorem receiveByte_txIdx (s : State) (b : Byte) (c : Word) : (receiveByte s b c).txIdx = s.txIdx := rfl
@[simp] theorem receiveByte_txBusy (s : State) (b : Byte) (c : Word) : (receiveByte s b c).txBusy = s.txBusy := rfl
@[simp] theorem receiveByte_rxExpect (s : State) (b : Byte) (c : Word) :
    (receiveByte s b c).rxExpect = s.rxExpect := rfl
@[simp] theorem receiveByte_rxN (s : State) (b : Byte) (c : Word) : (receiveByte s b c).rxN = s.rxN + 1#17 := rfl
@[simp] theorem receiveByte_rxPlen (s : State) (b : Byte) (c : Word) : (receiveByte s b c).rxPlen = s.rxPlen := rfl
@[simp] theorem receiveByte_rxBusy (s : State) (b : Byte) (c : Word) : (receiveByte s b c).rxBusy = s.rxBusy := rfl
@[simp] theorem receiveByte_txbuf (s : State) (b : Byte) (c : Word) : (receiveByte s b c).txbuf = s.txbuf := rfl
@[simp] theorem receiveByte_rxbuf (s : State) (b : Byte) (c : Word) :
    (receiveByte s b c).rxbuf = s.rxbuf.write s.rxN.toNat b := rfl
@[simp] theorem receiveByte_txout (s : State) (b : Byte) (c : Word) : (receiveByte s b c).txout = s.txout := rfl
@[simp] theorem receiveByte_stream (s : State) (b : Byte) (c : Word) : (receiveByte s b c).stream = s.stream := rfl
@[simp] theorem receiveByte_session (s : State) (b : Byte) (c : Word) : (receiveByte s b c).session = s.session := rfl
@[simp] theorem receiveByte_verdicts (s : State) (b : Byte) (c : Word) :
    (receiveByte s b c).verdicts = s.verdicts := rfl
@[simp] theorem receiveByte_results (s : State) (b : Byte) (c : Word) : (receiveByte s b c).results = s.results := rfl
@[simp] theorem receiveByte_actions (s : State) (b : Byte) (c : Word) : (receiveByte s b c).actions = s.actions := rfl
@[simp] theorem receiveByte_resetInput (s : State) (b : Byte) (c : Word) :
    (receiveByte s b c).resetInput = s.resetInput := rfl

/-! ### txnDrain -/

@[simp] theorem txnDrain_crc (t : Txn) (s : State) : (txnDrain t s).crc = s.crc := rfl
@[simp] theorem txnDrain_err (t : Txn) (s : State) : (txnDrain t s).err = s.err := rfl
@[simp] theorem txnDrain_trunc (t : Txn) (s : State) : (txnDrain t s).trunc = s.trunc := rfl
@[simp] theorem txnDrain_syncOk (t : Txn) (s : State) : (txnDrain t s).syncOk = s.syncOk := rfl
@[simp] theorem txnDrain_lenOk (t : Txn) (s : State) : (txnDrain t s).lenOk = s.lenOk := rfl
@[simp] theorem txnDrain_rxDone (t : Txn) (s : State) : (txnDrain t s).rxDone = s.rxDone := rfl
@[simp] theorem txnDrain_txOpcode (t : Txn) (s : State) : (txnDrain t s).txOpcode = s.txOpcode := rfl
@[simp] theorem txnDrain_txLen (t : Txn) (s : State) : (txnDrain t s).txLen = s.txLen := rfl
@[simp] theorem txnDrain_txIdx (t : Txn) (s : State) : (txnDrain t s).txIdx = s.txIdx := rfl
@[simp] theorem txnDrain_txBusy (t : Txn) (s : State) : (txnDrain t s).txBusy = s.txBusy := rfl
@[simp] theorem txnDrain_rxExpect (t : Txn) (s : State) : (txnDrain t s).rxExpect = s.rxExpect := rfl
@[simp] theorem txnDrain_rxN (t : Txn) (s : State) : (txnDrain t s).rxN = s.rxN := rfl
@[simp] theorem txnDrain_rxPlen (t : Txn) (s : State) : (txnDrain t s).rxPlen = s.rxPlen := rfl
@[simp] theorem txnDrain_rxBusy (t : Txn) (s : State) : (txnDrain t s).rxBusy = s.rxBusy := rfl
@[simp] theorem txnDrain_txbuf (t : Txn) (s : State) : (txnDrain t s).txbuf = s.txbuf := rfl
@[simp] theorem txnDrain_rxbuf (t : Txn) (s : State) : (txnDrain t s).rxbuf = s.rxbuf := rfl
@[simp] theorem txnDrain_txout (t : Txn) (s : State) : (txnDrain t s).txout = s.txout := rfl
@[simp] theorem txnDrain_stream (t : Txn) (s : State) : (txnDrain t s).stream = s.stream.drained := rfl
@[simp] theorem txnDrain_session (t : Txn) (s : State) :
    (txnDrain t s).session = some { txn := some { t with stage := .sending } } := rfl
@[simp] theorem txnDrain_verdicts (t : Txn) (s : State) : (txnDrain t s).verdicts = s.verdicts := rfl
@[simp] theorem txnDrain_results (t : Txn) (s : State) : (txnDrain t s).results = s.results := rfl
@[simp] theorem txnDrain_actions (t : Txn) (s : State) : (txnDrain t s).actions = s.actions := rfl
@[simp] theorem txnDrain_resetInput (t : Txn) (s : State) : (txnDrain t s).resetInput = s.resetInput := rfl

/-! ### readOpen -/

@[simp] theorem readOpen_crc (s : State) : (readOpen s).crc = s.crc := rfl
@[simp] theorem readOpen_err (s : State) : (readOpen s).err = s.err := rfl
@[simp] theorem readOpen_trunc (s : State) : (readOpen s).trunc = s.trunc := rfl
@[simp] theorem readOpen_syncOk (s : State) : (readOpen s).syncOk = s.syncOk := rfl
@[simp] theorem readOpen_lenOk (s : State) : (readOpen s).lenOk = s.lenOk := rfl
@[simp] theorem readOpen_rxDone (s : State) : (readOpen s).rxDone = s.rxDone := rfl
@[simp] theorem readOpen_txOpcode (s : State) : (readOpen s).txOpcode = s.txOpcode := rfl
@[simp] theorem readOpen_txLen (s : State) : (readOpen s).txLen = s.txLen := rfl
@[simp] theorem readOpen_txIdx (s : State) : (readOpen s).txIdx = s.txIdx := rfl
@[simp] theorem readOpen_txBusy (s : State) : (readOpen s).txBusy = s.txBusy := rfl
@[simp] theorem readOpen_rxExpect (s : State) : (readOpen s).rxExpect = s.rxExpect := rfl
@[simp] theorem readOpen_rxN (s : State) : (readOpen s).rxN = s.rxN := rfl
@[simp] theorem readOpen_rxPlen (s : State) : (readOpen s).rxPlen = s.rxPlen := rfl
@[simp] theorem readOpen_rxBusy (s : State) : (readOpen s).rxBusy = s.rxBusy := rfl
@[simp] theorem readOpen_txbuf (s : State) : (readOpen s).txbuf = s.txbuf := rfl
@[simp] theorem readOpen_rxbuf (s : State) : (readOpen s).rxbuf = s.rxbuf := rfl
@[simp] theorem readOpen_txout (s : State) : (readOpen s).txout = s.txout := rfl
@[simp] theorem readOpen_stream (s : State) : (readOpen s).stream = s.stream.opened := rfl
@[simp] theorem readOpen_session (s : State) : (readOpen s).session = s.session := rfl
@[simp] theorem readOpen_verdicts (s : State) : (readOpen s).verdicts = s.verdicts := rfl
@[simp] theorem readOpen_results (s : State) : (readOpen s).results = s.results := rfl
@[simp] theorem readOpen_actions (s : State) : (readOpen s).actions = s.actions := rfl
@[simp] theorem readOpen_resetInput (s : State) : (readOpen s).resetInput = s.resetInput := rfl

/-! ### awaitResponse -/

@[simp] theorem awaitResponse_crc (t : Txn) (s : State) : (awaitResponse t s).crc = s.crc := rfl
@[simp] theorem awaitResponse_err (t : Txn) (s : State) : (awaitResponse t s).err = s.err := rfl
@[simp] theorem awaitResponse_trunc (t : Txn) (s : State) : (awaitResponse t s).trunc = s.trunc := rfl
@[simp] theorem awaitResponse_syncOk (t : Txn) (s : State) : (awaitResponse t s).syncOk = s.syncOk := rfl
@[simp] theorem awaitResponse_lenOk (t : Txn) (s : State) : (awaitResponse t s).lenOk = s.lenOk := rfl
@[simp] theorem awaitResponse_rxDone (t : Txn) (s : State) : (awaitResponse t s).rxDone = s.rxDone := rfl
@[simp] theorem awaitResponse_txOpcode (t : Txn) (s : State) : (awaitResponse t s).txOpcode = s.txOpcode := rfl
@[simp] theorem awaitResponse_txLen (t : Txn) (s : State) : (awaitResponse t s).txLen = s.txLen := rfl
@[simp] theorem awaitResponse_txIdx (t : Txn) (s : State) : (awaitResponse t s).txIdx = s.txIdx := rfl
@[simp] theorem awaitResponse_txBusy (t : Txn) (s : State) : (awaitResponse t s).txBusy = s.txBusy := rfl
@[simp] theorem awaitResponse_rxExpect (t : Txn) (s : State) : (awaitResponse t s).rxExpect = s.rxExpect := rfl
@[simp] theorem awaitResponse_rxN (t : Txn) (s : State) : (awaitResponse t s).rxN = s.rxN := rfl
@[simp] theorem awaitResponse_rxPlen (t : Txn) (s : State) : (awaitResponse t s).rxPlen = s.rxPlen := rfl
@[simp] theorem awaitResponse_rxBusy (t : Txn) (s : State) : (awaitResponse t s).rxBusy = s.rxBusy := rfl
@[simp] theorem awaitResponse_txbuf (t : Txn) (s : State) : (awaitResponse t s).txbuf = s.txbuf := rfl
@[simp] theorem awaitResponse_rxbuf (t : Txn) (s : State) : (awaitResponse t s).rxbuf = s.rxbuf := rfl
@[simp] theorem awaitResponse_txout (t : Txn) (s : State) : (awaitResponse t s).txout = s.txout := rfl
@[simp] theorem awaitResponse_stream (t : Txn) (s : State) : (awaitResponse t s).stream = s.stream.opened := rfl
@[simp] theorem awaitResponse_session (t : Txn) (s : State) :
    (awaitResponse t s).session = some { txn := some (sentTxn t s) } := rfl
@[simp] theorem awaitResponse_verdicts (t : Txn) (s : State) : (awaitResponse t s).verdicts = s.verdicts := rfl
@[simp] theorem awaitResponse_results (t : Txn) (s : State) : (awaitResponse t s).results = s.results := rfl
@[simp] theorem awaitResponse_actions (t : Txn) (s : State) : (awaitResponse t s).actions = s.actions := rfl
@[simp] theorem awaitResponse_resetInput (t : Txn) (s : State) : (awaitResponse t s).resetInput = s.resetInput := rfl

/-! ### readTake -/

@[simp] theorem readTake_crc (n : Nat) (s : State) : (readTake n s).crc = s.crc := rfl
@[simp] theorem readTake_err (n : Nat) (s : State) : (readTake n s).err = s.err := rfl
@[simp] theorem readTake_trunc (n : Nat) (s : State) : (readTake n s).trunc = s.trunc := rfl
@[simp] theorem readTake_syncOk (n : Nat) (s : State) : (readTake n s).syncOk = s.syncOk := rfl
@[simp] theorem readTake_lenOk (n : Nat) (s : State) : (readTake n s).lenOk = s.lenOk := rfl
@[simp] theorem readTake_rxDone (n : Nat) (s : State) : (readTake n s).rxDone = s.rxDone := rfl
@[simp] theorem readTake_txOpcode (n : Nat) (s : State) : (readTake n s).txOpcode = s.txOpcode := rfl
@[simp] theorem readTake_txLen (n : Nat) (s : State) : (readTake n s).txLen = s.txLen := rfl
@[simp] theorem readTake_txIdx (n : Nat) (s : State) : (readTake n s).txIdx = s.txIdx := rfl
@[simp] theorem readTake_txBusy (n : Nat) (s : State) : (readTake n s).txBusy = s.txBusy := rfl
@[simp] theorem readTake_rxExpect (n : Nat) (s : State) : (readTake n s).rxExpect = s.rxExpect := rfl
@[simp] theorem readTake_rxN (n : Nat) (s : State) : (readTake n s).rxN = s.rxN := rfl
@[simp] theorem readTake_rxPlen (n : Nat) (s : State) : (readTake n s).rxPlen = s.rxPlen := rfl
@[simp] theorem readTake_rxBusy (n : Nat) (s : State) : (readTake n s).rxBusy = s.rxBusy := rfl
@[simp] theorem readTake_txbuf (n : Nat) (s : State) : (readTake n s).txbuf = s.txbuf := rfl
@[simp] theorem readTake_rxbuf (n : Nat) (s : State) : (readTake n s).rxbuf = s.rxbuf := rfl
@[simp] theorem readTake_txout (n : Nat) (s : State) : (readTake n s).txout = s.txout := rfl
@[simp] theorem readTake_stream (n : Nat) (s : State) : (readTake n s).stream = s.stream.taken n := rfl
@[simp] theorem readTake_session (n : Nat) (s : State) : (readTake n s).session = s.session := rfl
@[simp] theorem readTake_verdicts (n : Nat) (s : State) : (readTake n s).verdicts = s.verdicts := rfl
@[simp] theorem readTake_results (n : Nat) (s : State) : (readTake n s).results = s.results := rfl
@[simp] theorem readTake_actions (n : Nat) (s : State) : (readTake n s).actions = s.actions := rfl
@[simp] theorem readTake_resetInput (n : Nat) (s : State) : (readTake n s).resetInput = s.resetInput := rfl

/-! ### readClose -/

@[simp] theorem readClose_crc (s : State) : (readClose s).crc = s.crc := rfl
@[simp] theorem readClose_err (s : State) : (readClose s).err = s.err := rfl
@[simp] theorem readClose_trunc (s : State) : (readClose s).trunc = s.trunc := rfl
@[simp] theorem readClose_syncOk (s : State) : (readClose s).syncOk = s.syncOk := rfl
@[simp] theorem readClose_lenOk (s : State) : (readClose s).lenOk = s.lenOk := rfl
@[simp] theorem readClose_rxDone (s : State) : (readClose s).rxDone = s.rxDone := rfl
@[simp] theorem readClose_txOpcode (s : State) : (readClose s).txOpcode = s.txOpcode := rfl
@[simp] theorem readClose_txLen (s : State) : (readClose s).txLen = s.txLen := rfl
@[simp] theorem readClose_txIdx (s : State) : (readClose s).txIdx = s.txIdx := rfl
@[simp] theorem readClose_txBusy (s : State) : (readClose s).txBusy = s.txBusy := rfl
@[simp] theorem readClose_rxExpect (s : State) : (readClose s).rxExpect = s.rxExpect := rfl
@[simp] theorem readClose_rxN (s : State) : (readClose s).rxN = s.rxN := rfl
@[simp] theorem readClose_rxPlen (s : State) : (readClose s).rxPlen = s.rxPlen := rfl
@[simp] theorem readClose_rxBusy (s : State) : (readClose s).rxBusy = s.rxBusy := rfl
@[simp] theorem readClose_txbuf (s : State) : (readClose s).txbuf = s.txbuf := rfl
@[simp] theorem readClose_rxbuf (s : State) : (readClose s).rxbuf = s.rxbuf := rfl
@[simp] theorem readClose_txout (s : State) : (readClose s).txout = s.txout := rfl
@[simp] theorem readClose_stream (s : State) : (readClose s).stream = s.stream.closed := rfl
@[simp] theorem readClose_session (s : State) : (readClose s).session = s.session := rfl
@[simp] theorem readClose_verdicts (s : State) : (readClose s).verdicts = s.verdicts := rfl
@[simp] theorem readClose_results (s : State) : (readClose s).results = s.results := rfl
@[simp] theorem readClose_actions (s : State) : (readClose s).actions = s.actions := rfl
@[simp] theorem readClose_resetInput (s : State) : (readClose s).resetInput = s.resetInput := rfl

/-! ### txnFail -/

@[simp] theorem txnFail_crc (t : Txn) (k : ErrorKind) (s : State) : (txnFail t k s).crc = s.crc := rfl
@[simp] theorem txnFail_err (t : Txn) (k : ErrorKind) (s : State) : (txnFail t k s).err = s.err := rfl
@[simp] theorem txnFail_trunc (t : Txn) (k : ErrorKind) (s : State) : (txnFail t k s).trunc = s.trunc := rfl
@[simp] theorem txnFail_syncOk (t : Txn) (k : ErrorKind) (s : State) : (txnFail t k s).syncOk = s.syncOk := rfl
@[simp] theorem txnFail_lenOk (t : Txn) (k : ErrorKind) (s : State) : (txnFail t k s).lenOk = s.lenOk := rfl
@[simp] theorem txnFail_rxDone (t : Txn) (k : ErrorKind) (s : State) : (txnFail t k s).rxDone = s.rxDone := rfl
@[simp] theorem txnFail_txOpcode (t : Txn) (k : ErrorKind) (s : State) : (txnFail t k s).txOpcode = s.txOpcode := rfl
@[simp] theorem txnFail_txLen (t : Txn) (k : ErrorKind) (s : State) : (txnFail t k s).txLen = s.txLen := rfl
@[simp] theorem txnFail_txIdx (t : Txn) (k : ErrorKind) (s : State) : (txnFail t k s).txIdx = s.txIdx := rfl
@[simp] theorem txnFail_txBusy (t : Txn) (k : ErrorKind) (s : State) : (txnFail t k s).txBusy = s.txBusy := rfl
@[simp] theorem txnFail_rxExpect (t : Txn) (k : ErrorKind) (s : State) : (txnFail t k s).rxExpect = s.rxExpect := rfl
@[simp] theorem txnFail_rxN (t : Txn) (k : ErrorKind) (s : State) : (txnFail t k s).rxN = s.rxN := rfl
@[simp] theorem txnFail_rxPlen (t : Txn) (k : ErrorKind) (s : State) : (txnFail t k s).rxPlen = s.rxPlen := rfl
@[simp] theorem txnFail_rxBusy (t : Txn) (k : ErrorKind) (s : State) : (txnFail t k s).rxBusy = s.rxBusy := rfl
@[simp] theorem txnFail_txbuf (t : Txn) (k : ErrorKind) (s : State) : (txnFail t k s).txbuf = s.txbuf := rfl
@[simp] theorem txnFail_rxbuf (t : Txn) (k : ErrorKind) (s : State) : (txnFail t k s).rxbuf = s.rxbuf := rfl
@[simp] theorem txnFail_txout (t : Txn) (k : ErrorKind) (s : State) : (txnFail t k s).txout = s.txout := rfl
@[simp] theorem txnFail_stream (t : Txn) (k : ErrorKind) (s : State) : (txnFail t k s).stream = s.stream := rfl
@[simp] theorem txnFail_session (t : Txn) (k : ErrorKind) (s : State) :
    (txnFail t k s).session = some { txn := some { t with stage := .failed } } := rfl
@[simp] theorem txnFail_verdicts (t : Txn) (k : ErrorKind) (s : State) : (txnFail t k s).verdicts = s.verdicts := rfl
@[simp] theorem txnFail_results (t : Txn) (k : ErrorKind) (s : State) :
    (txnFail t k s).results = s.results ++ [t.command.onError k] := rfl
@[simp] theorem txnFail_actions (t : Txn) (k : ErrorKind) (s : State) : (txnFail t k s).actions = s.actions := rfl
@[simp] theorem txnFail_resetInput (t : Txn) (k : ErrorKind) (s : State) :
    (txnFail t k s).resetInput = s.resetInput := rfl

/-! ### txnComplete -/

@[simp] theorem txnComplete_crc (t : Txn) (r : CommandResult) (s : State) : (txnComplete t r s).crc = s.crc := rfl
@[simp] theorem txnComplete_err (t : Txn) (r : CommandResult) (s : State) : (txnComplete t r s).err = s.err := rfl
@[simp] theorem txnComplete_trunc (t : Txn) (r : CommandResult) (s : State) :
    (txnComplete t r s).trunc = s.trunc := rfl
@[simp] theorem txnComplete_syncOk (t : Txn) (r : CommandResult) (s : State) :
    (txnComplete t r s).syncOk = s.syncOk := rfl
@[simp] theorem txnComplete_lenOk (t : Txn) (r : CommandResult) (s : State) :
    (txnComplete t r s).lenOk = s.lenOk := rfl
@[simp] theorem txnComplete_rxDone (t : Txn) (r : CommandResult) (s : State) :
    (txnComplete t r s).rxDone = s.rxDone := rfl
@[simp] theorem txnComplete_txOpcode (t : Txn) (r : CommandResult) (s : State) :
    (txnComplete t r s).txOpcode = s.txOpcode := rfl
@[simp] theorem txnComplete_txLen (t : Txn) (r : CommandResult) (s : State) :
    (txnComplete t r s).txLen = s.txLen := rfl
@[simp] theorem txnComplete_txIdx (t : Txn) (r : CommandResult) (s : State) :
    (txnComplete t r s).txIdx = s.txIdx := rfl
@[simp] theorem txnComplete_txBusy (t : Txn) (r : CommandResult) (s : State) :
    (txnComplete t r s).txBusy = s.txBusy := rfl
@[simp] theorem txnComplete_rxExpect (t : Txn) (r : CommandResult) (s : State) :
    (txnComplete t r s).rxExpect = s.rxExpect := rfl
@[simp] theorem txnComplete_rxN (t : Txn) (r : CommandResult) (s : State) : (txnComplete t r s).rxN = s.rxN := rfl
@[simp] theorem txnComplete_rxPlen (t : Txn) (r : CommandResult) (s : State) :
    (txnComplete t r s).rxPlen = s.rxPlen := rfl
@[simp] theorem txnComplete_rxBusy (t : Txn) (r : CommandResult) (s : State) :
    (txnComplete t r s).rxBusy = s.rxBusy := rfl
@[simp] theorem txnComplete_txbuf (t : Txn) (r : CommandResult) (s : State) :
    (txnComplete t r s).txbuf = s.txbuf := rfl
@[simp] theorem txnComplete_rxbuf (t : Txn) (r : CommandResult) (s : State) :
    (txnComplete t r s).rxbuf = s.rxbuf := rfl
@[simp] theorem txnComplete_txout (t : Txn) (r : CommandResult) (s : State) :
    (txnComplete t r s).txout = s.txout := rfl
@[simp] theorem txnComplete_stream (t : Txn) (r : CommandResult) (s : State) :
    (txnComplete t r s).stream = s.stream := rfl
@[simp] theorem txnComplete_session (t : Txn) (r : CommandResult) (s : State) :
    (txnComplete t r s).session = some { txn := some { t with stage := .complete } } := rfl
@[simp] theorem txnComplete_verdicts (t : Txn) (r : CommandResult) (s : State) :
    (txnComplete t r s).verdicts = s.verdicts := rfl
@[simp] theorem txnComplete_results (t : Txn) (r : CommandResult) (s : State) :
    (txnComplete t r s).results = s.results ++ [r] := rfl
@[simp] theorem txnComplete_actions (t : Txn) (r : CommandResult) (s : State) :
    (txnComplete t r s).actions = s.actions := rfl
@[simp] theorem txnComplete_resetInput (t : Txn) (r : CommandResult) (s : State) :
    (txnComplete t r s).resetInput = s.resetInput := rfl

/-! ### txnValidate -/

@[simp] theorem txnValidate_crc (t : Txn) (s : State) : (txnValidate t s).crc = s.crc := rfl
@[simp] theorem txnValidate_err (t : Txn) (s : State) : (txnValidate t s).err = s.err := rfl
@[simp] theorem txnValidate_trunc (t : Txn) (s : State) : (txnValidate t s).trunc = s.trunc := rfl
@[simp] theorem txnValidate_syncOk (t : Txn) (s : State) : (txnValidate t s).syncOk = s.syncOk := rfl
@[simp] theorem txnValidate_lenOk (t : Txn) (s : State) : (txnValidate t s).lenOk = s.lenOk := rfl
@[simp] theorem txnValidate_rxDone (t : Txn) (s : State) : (txnValidate t s).rxDone = s.rxDone := rfl
@[simp] theorem txnValidate_txOpcode (t : Txn) (s : State) : (txnValidate t s).txOpcode = s.txOpcode := rfl
@[simp] theorem txnValidate_txLen (t : Txn) (s : State) : (txnValidate t s).txLen = s.txLen := rfl
@[simp] theorem txnValidate_txIdx (t : Txn) (s : State) : (txnValidate t s).txIdx = s.txIdx := rfl
@[simp] theorem txnValidate_txBusy (t : Txn) (s : State) : (txnValidate t s).txBusy = s.txBusy := rfl
@[simp] theorem txnValidate_rxExpect (t : Txn) (s : State) : (txnValidate t s).rxExpect = s.rxExpect := rfl
@[simp] theorem txnValidate_rxN (t : Txn) (s : State) : (txnValidate t s).rxN = s.rxN := rfl
@[simp] theorem txnValidate_rxPlen (t : Txn) (s : State) : (txnValidate t s).rxPlen = s.rxPlen := rfl
@[simp] theorem txnValidate_rxBusy (t : Txn) (s : State) : (txnValidate t s).rxBusy = s.rxBusy := rfl
@[simp] theorem txnValidate_txbuf (t : Txn) (s : State) : (txnValidate t s).txbuf = s.txbuf := rfl
@[simp] theorem txnValidate_rxbuf (t : Txn) (s : State) : (txnValidate t s).rxbuf = s.rxbuf := rfl
@[simp] theorem txnValidate_txout (t : Txn) (s : State) : (txnValidate t s).txout = s.txout := rfl
@[simp] theorem txnValidate_stream (t : Txn) (s : State) : (txnValidate t s).stream = s.stream := rfl
@[simp] theorem txnValidate_session (t : Txn) (s : State) :
    (txnValidate t s).session = some { txn := some { t with stage := .validating } } := rfl
@[simp] theorem txnValidate_verdicts (t : Txn) (s : State) : (txnValidate t s).verdicts = s.verdicts := rfl
@[simp] theorem txnValidate_results (t : Txn) (s : State) : (txnValidate t s).results = s.results := rfl
@[simp] theorem txnValidate_actions (t : Txn) (s : State) : (txnValidate t s).actions = s.actions := rfl
@[simp] theorem txnValidate_resetInput (t : Txn) (s : State) : (txnValidate t s).resetInput = s.resetInput := rfl

/-! ### txnEnd -/

@[simp] theorem txnEnd_crc (s : State) : (txnEnd s).crc = s.crc := rfl
@[simp] theorem txnEnd_err (s : State) : (txnEnd s).err = s.err := rfl
@[simp] theorem txnEnd_trunc (s : State) : (txnEnd s).trunc = s.trunc := rfl
@[simp] theorem txnEnd_syncOk (s : State) : (txnEnd s).syncOk = s.syncOk := rfl
@[simp] theorem txnEnd_lenOk (s : State) : (txnEnd s).lenOk = s.lenOk := rfl
@[simp] theorem txnEnd_rxDone (s : State) : (txnEnd s).rxDone = s.rxDone := rfl
@[simp] theorem txnEnd_txOpcode (s : State) : (txnEnd s).txOpcode = s.txOpcode := rfl
@[simp] theorem txnEnd_txLen (s : State) : (txnEnd s).txLen = s.txLen := rfl
@[simp] theorem txnEnd_txIdx (s : State) : (txnEnd s).txIdx = s.txIdx := rfl
@[simp] theorem txnEnd_txBusy (s : State) : (txnEnd s).txBusy = s.txBusy := rfl
@[simp] theorem txnEnd_rxExpect (s : State) : (txnEnd s).rxExpect = s.rxExpect := rfl
@[simp] theorem txnEnd_rxN (s : State) : (txnEnd s).rxN = s.rxN := rfl
@[simp] theorem txnEnd_rxPlen (s : State) : (txnEnd s).rxPlen = s.rxPlen := rfl
@[simp] theorem txnEnd_rxBusy (s : State) : (txnEnd s).rxBusy = s.rxBusy := rfl
@[simp] theorem txnEnd_txbuf (s : State) : (txnEnd s).txbuf = s.txbuf := rfl
@[simp] theorem txnEnd_rxbuf (s : State) : (txnEnd s).rxbuf = s.rxbuf := rfl
@[simp] theorem txnEnd_txout (s : State) : (txnEnd s).txout = s.txout := rfl
@[simp] theorem txnEnd_stream (s : State) : (txnEnd s).stream = s.stream := rfl
@[simp] theorem txnEnd_session (s : State) : (txnEnd s).session = some { txn := none } := rfl
@[simp] theorem txnEnd_verdicts (s : State) : (txnEnd s).verdicts = s.verdicts := rfl
@[simp] theorem txnEnd_results (s : State) : (txnEnd s).results = s.results := rfl
@[simp] theorem txnEnd_actions (s : State) : (txnEnd s).actions = s.actions := rfl
@[simp] theorem txnEnd_resetInput (s : State) : (txnEnd s).resetInput = s.resetInput := rfl

end Sys2Proof.Machine
end

