-- ==== Sys2Proof/Laws/Ops.lean ====
section
/-! SUPPORT. Once for each shared operation and each operation of the block, everything it can do: when it answers a
next state, and which. Later proofs cite these instead of unfolding. -/

namespace Sys2Proof.Machine

/-- The busy bit is clear exactly when both halves are idle (R36). -/
@[simp] theorem State.busy_eq_false (s : State) : s.busy = false ↔ s.txBusy = false ∧ s.rxBusy = false := by
  simp [State.busy]

/-- `STATUS.BUSY` is set exactly when one half is busy (R36). -/
@[simp] theorem State.busy_eq_true (s : State) : s.busy = true ↔ s.txBusy = true ∨ s.rxBusy = true := by
  simp [State.busy]

theorem whenIdle_of_idle {s : State} {r : Result} (h : s.busy = false) : whenIdle s r = r := by
  simp [whenIdle, h]

theorem whenIdle_of_busy {s : State} {r : Result} (h : s.busy = true) : whenIdle s r = .refused .busy := by
  simp [whenIdle, h]

theorem whenIdle_next {s t : State} {r : Result} :
    whenIdle s r = .next t ↔ s.busy = false ∧ r = .next t := by
  cases h : s.busy <;> simp [whenIdle, h]

theorem whenFramable_next {s t u : State} {payload : List Byte} :
    whenFramable s payload t = .next u ↔
      s.busy = false ∧ payload.length ≤ 65535 ∧ t = u := by
  rw [whenFramable, whenIdle_next]
  by_cases h : 65535 < payload.length
  · simp [h, Nat.not_le.mpr h]
  · simp [h, Nat.not_lt.mp h]

theorem encodeOp_next {opcode : Byte} {payload : List Byte} {s t : State} :
    encodeOp opcode payload s = .next t ↔
      s.busy = false ∧ payload.length ≤ 65535 ∧ sendWhole s opcode payload = t :=
  whenFramable_next

theorem decodeOp_next {expect : Byte} {buf : List Byte} {s t : State} :
    decodeOp expect buf s = .next t ↔
      s.busy = false ∧ buf.length ≤ 65542 ∧
        reportVerdict (loadBuffer s expect buf) (syncFlag buf) (lenFlag buf)
          (verdictOf (decodeAndValidate buf expect)) = t := by
  rw [decodeOp, whenIdle_next]
  by_cases h : 65542 < buf.length
  · simp [h, Nat.not_le.mpr h]
  · simp [h, Nat.not_lt.mp h]

theorem abortOp_next {s t : State} :
    abortOp s = .next t ↔ s.txBusy = false ∧ { clearVerdict s with rxBusy := false } = t := by
  cases h : s.txBusy <;> simp [abortOp, h]

theorem andThen_next {r : Result} {f : State → Result} {u : State} :
    andThen r f = .next u ↔ ∃ t, r = .next t ∧ f t = .next u := by
  cases r <;> simp [andThen]

@[simp] theorem andThen_of_next (t : State) (f : State → Result) : andThen (.next t) f = f t := rfl

@[simp] theorem andThen_of_refused (r : Refusal) (f : State → Result) : andThen (.refused r) f = .refused r := rfl

/-! ### The operations of the block -/

theorem execCrcSeed_next {v : Word} {s t : State} :
    execCrcSeed v s = .next t ↔ s.busy = false ∧ setCrc s v = t := by
  simp only [execCrcSeed, whenIdle_next, Host.Outcome.next.injEq]

theorem execCrcUpdate_next {b : Byte} {s t : State} :
    execCrcUpdate b s = .next t ↔ s.busy = false ∧ setCrc s (crcUpdate s.crc b) = t := by
  simp only [execCrcUpdate, whenIdle_next, Host.Outcome.next.injEq]

theorem execCrcCompute_next {buf : List Byte} {s t : State} :
    execCrcCompute buf s = .next t ↔ s.busy = false ∧ setCrc s (crcCompute buf) = t := by
  simp only [execCrcCompute, whenIdle_next, Host.Outcome.next.injEq]

theorem execCrcInit_next {s t : State} :
    execCrcInit s = .next t ↔ s.busy = false ∧ setCrc s Config.seedInit = t := by
  simp only [execCrcInit, whenIdle_next, Host.Outcome.next.injEq]

theorem startOp_next {opcode : Byte} {payload : List Byte} {s t : State} :
    startOp opcode payload s = .next t ↔
      s.busy = false ∧ payload.length ≤ 65535 ∧ sendStart s opcode payload = t :=
  whenFramable_next

theorem execTxStart_next {opcode : Byte} {payload : List Byte} {s t : State} :
    execTxStart opcode payload s = .next t ↔
      s.busy = false ∧ payload.length ≤ 65535 ∧ sendStart s opcode payload = t :=
  startOp_next

theorem stepOp_next {s t : State} :
    stepOp s = .next t ↔ s.txBusy = true ∧ ∃ b, txByte s = some b ∧ sendByte s b = t := by
  cases h : s.txBusy
  · simp [stepOp, h]
  · cases hb : txByte s <;> simp [stepOp, h, hb]

theorem execTxStep_next {s t : State} :
    execTxStep s = .next t ↔ s.txBusy = true ∧ ∃ b, txByte s = some b ∧ sendByte s b = t :=
  stepOp_next

theorem rxStartOp_next {expect : Byte} {s t : State} :
    rxStartOp expect s = .next t ↔ s.busy = false ∧ receiveStart s expect = t := by
  simp only [rxStartOp, whenIdle_next, Host.Outcome.next.injEq]

theorem execRxStart_next {expect : Byte} {s t : State} :
    execRxStart expect s = .next t ↔ s.busy = false ∧ receiveStart s expect = t :=
  rxStartOp_next

theorem rxByteOp_next {b : Byte} {s t : State} :
    rxByteOp b s = .next t ↔
      s.rxBusy = true ∧ s.rxN.toNat < 65542 ∧ ∃ c, crcTwoBack s = some c ∧ receiveByte s b c = t := by
  cases h : s.rxBusy
  · simp [rxByteOp, h]
  · by_cases h' : 65542 ≤ s.rxN.toNat
    · simp [rxByteOp, h, h', Nat.not_lt.mpr h']
    · cases hc : crcTwoBack s <;> simp [rxByteOp, h, h', Nat.not_le.mp h', hc]

theorem execRxByte_next {b : Byte} {s t : State} :
    execRxByte b s = .next t ↔
      s.rxBusy = true ∧ s.rxN.toNat < 65542 ∧ ∃ c, crcTwoBack s = some c ∧ receiveByte s b c = t :=
  rxByteOp_next

/-- `RX_END` on a short buffer (R172). -/
theorem rxEndOp_short {s : State} (hb : s.rxBusy = true) (hn : s.rxN.toNat < 7) :
    rxEndOp s = .next (reportVerdict s (rxSyncFlag s) false (.error .frameTooShort)) := by
  simp [rxEndOp, hb, hn]

/-- `RX_END` on a buffer of at least seven bytes (R172). -/
theorem rxEndOp_long {s : State} {len rxCrc : Word} {opcode : Byte} (hb : s.rxBusy = true)
    (hn : 7 ≤ s.rxN.toNat) (hl : rxLenView s = some len) (hc : rxTrailer s = some rxCrc)
    (ho : rxOpcodeView s = some opcode) :
    rxEndOp s = .next (reportVerdict s (rxSyncFlag s) (len.toNat == s.rxN.toNat - 7)
      (endVerdict s len rxCrc opcode)) := by
  simp [rxEndOp, hb, Nat.not_lt.mpr hn, hl, hc, ho]

theorem rxEndOp_next {s t : State} :
    rxEndOp s = .next t ↔
      s.rxBusy = true ∧
        ((s.rxN.toNat < 7 ∧
            reportVerdict s (rxSyncFlag s) false (.error .frameTooShort) = t) ∨
          (7 ≤ s.rxN.toNat ∧ ∃ len rxCrc opcode,
            rxLenView s = some len ∧ rxTrailer s = some rxCrc ∧ rxOpcodeView s = some opcode ∧
            reportVerdict s (rxSyncFlag s) (len.toNat == s.rxN.toNat - 7)
              (endVerdict s len rxCrc opcode) = t)) := by
  cases hb : s.rxBusy
  · simp [rxEndOp, hb]
  · by_cases hn : s.rxN.toNat < 7
    · simp [rxEndOp, hb, hn, Nat.not_le.mpr hn]
    · cases hl : rxLenView s <;> cases hc : rxTrailer s <;> cases ho : rxOpcodeView s <;>
        simp [rxEndOp, hb, hn, Nat.not_lt.mp hn, hl, hc, ho]

theorem execRxEnd_next {s t : State} :
    execRxEnd s = .next t ↔
      s.rxBusy = true ∧
        ((s.rxN.toNat < 7 ∧
            reportVerdict s (rxSyncFlag s) false (.error .frameTooShort) = t) ∨
          (7 ≤ s.rxN.toNat ∧ ∃ len rxCrc opcode,
            rxLenView s = some len ∧ rxTrailer s = some rxCrc ∧ rxOpcodeView s = some opcode ∧
            reportVerdict s (rxSyncFlag s) (len.toNat == s.rxN.toNat - 7)
              (endVerdict s len rxCrc opcode) = t)) :=
  rxEndOp_next

/-! ### The Session and a transaction -/

@[simp] theorem setTxn_txn (s : State) (o : Option Txn) : (setTxn s o).txn = o := rfl

/-- The transaction in flight is the Session's. -/
theorem txn_eq_some {s : State} {t : Txn} : s.txn = some t ↔ s.session = some { txn := some t } := by
  cases h : s.session with
  | none => simp [State.txn, h]
  | some x => cases x; simp [State.txn, h]

@[simp] theorem Stream.drained_buffered (st : Stream) : st.drained.buffered = [] := rfl
@[simp] theorem Stream.drained_next (st : Stream) : st.drained.next = st.next := rfl
@[simp] theorem Stream.drained_arrivals (st : Stream) : st.drained.arrivals = st.arrivals := rfl
@[simp] theorem Stream.opened_buffered (st : Stream) : st.opened.buffered = st.buffered ++ st.next.inTime := rfl
@[simp] theorem Stream.opened_late (st : Stream) : st.opened.late = st.next.late := rfl
@[simp] theorem Stream.opened_arrivals (st : Stream) : st.opened.arrivals = st.arrivals.tail := rfl
@[simp] theorem Stream.taken_buffered (st : Stream) (n : Nat) : (st.taken n).buffered = st.buffered.drop n := rfl
@[simp] theorem Stream.taken_late (st : Stream) (n : Nat) : (st.taken n).late = st.late := rfl
@[simp] theorem Stream.taken_arrivals (st : Stream) (n : Nat) : (st.taken n).arrivals = st.arrivals := rfl
@[simp] theorem Stream.closed_buffered (st : Stream) : st.closed.buffered = st.buffered ++ st.late := rfl
@[simp] theorem Stream.closed_late (st : Stream) : st.closed.late = [] := rfl
@[simp] theorem Stream.closed_arrivals (st : Stream) : st.closed.arrivals = st.arrivals := rfl

@[simp] theorem newTxn_stage (c : Command) (opcode : Byte) (payload : List Byte) :
    (newTxn c opcode payload).stage = .draining := rfl
@[simp] theorem sentTxn_stage (t : Txn) (s : State) : (sentTxn t s).stage = .awaitingResponse := rfl
@[simp] theorem sentTxn_command (t : Txn) (s : State) : (sentTxn t s).command = t.command := rfl
@[simp] theorem sentTxn_expectOp (t : Txn) (s : State) : (sentTxn t s).expectOp = t.expectOp := rfl
@[simp] theorem sentTxn_payload (t : Txn) (s : State) : (sentTxn t s).payload = t.payload := rfl
@[simp] theorem sentTxn_expectLen (t : Txn) (s : State) :
    (sentTxn t s).expectLen = t.command.expectLen s.txLen.toNat := rfl

/-- The last bytes emitted are those appended last. -/
theorem lastEmitted_of_append {s : State} {xs ys : List Byte} {n : Nat} (h : s.txout = xs ++ ys)
    (hn : ys.length = n) : lastEmitted s n = ys := by
  subst hn
  simp [lastEmitted, h]

theorem connectOp_next {s t : State} : connectOp s = .next t ↔ s.session = none ∧ setTxn s none = t := by
  cases h : s.session <;> simp [connectOp, h]

theorem closeOp_next {s t : State} :
    closeOp s = .next t ↔ (∃ x, s.session = some x) ∧ { s with session := none } = t := by
  cases h : s.session <;> simp [closeOp, h]

theorem txnBegin_next {c : Command} {opcode : Byte} {payload : List Byte} {s t : State} :
    txnBegin c opcode payload s = .next t ↔
      s.session = some Session.idle ∧ s.busy = false ∧ payload.length ≤ 65535 ∧
        setTxn s (some (newTxn c opcode payload)) = t := by
  cases h : s.session with
  | none => simp [txnBegin, h]
  | some x =>
    obtain ⟨o⟩ := x
    cases o with
    | none => simp [txnBegin, h, whenFramable_next, Session.idle]
    | some u => simp [txnBegin, h, Session.idle]

theorem levelBOp_next {i : Instr} {s t : State} :
    levelBOp i s = .next t ↔ ∃ c opcode payload, frameOf i = some (c, opcode, payload) ∧
      txnBegin c opcode payload s = .next t := by
  cases h : frameOf i with
  | none => simp [levelBOp, h]
  | some x =>
    obtain ⟨c, o, p⟩ := x
    simp [levelBOp, h]

theorem txnTimeout_next {t : Txn} {s u : State} :
    txnTimeout t s = .next u ↔
      s.txBusy = false ∧ txnFail t .timeout { clearVerdict s with rxBusy := false } = u := by
  simp only [txnTimeout, andThen_next, abortOp_next, Host.Outcome.next.injEq]
  constructor
  · rintro ⟨_, ⟨h, rfl⟩, rfl⟩
    exact ⟨h, rfl⟩
  · rintro ⟨h, rfl⟩
    exact ⟨_, ⟨h, rfl⟩, rfl⟩

/-- What the end of the decode can do (R218): fail with the kind in `ERR`, or complete. -/
theorem txnConclude_next {t : Txn} {s u : State} :
    txnConclude t s = .next u ↔
      (∃ k, ErrorKind.ofCode s.err = some k ∧ txnFail t k s = u) ∨
        (ErrorKind.ofCode s.err = none ∧ ∃ r, t.command.onComplete t.sent s = some r ∧ txnComplete t r s = u) := by
  cases h : ErrorKind.ofCode s.err <;> cases hr : t.command.onComplete t.sent s <;> simp [txnConclude, h, hr]

/-- What a level A read can do (R217): time out, or decode `E` bytes and conclude. -/
theorem txnReceive_next {t : Txn} {s u : State} :
    txnReceive t s = .next u ↔
      (s.stream.buffered.length < t.expectLen ∧ txnTimeout t (readClose (readTake t.expectLen s)) = .next u) ∨
        (t.expectLen ≤ s.stream.buffered.length ∧
          ∃ v, decodeOp t.expectOp (s.stream.buffered.take t.expectLen)
              (txnValidate t (readClose (readTake t.expectLen s))) = .next v ∧
            txnConclude t v = .next u) := by
  by_cases h : s.stream.buffered.length < t.expectLen
  · rw [txnReceive, if_pos h]
    simp only [h, Nat.not_le.mpr h, true_and, false_and, or_false]
  · rw [txnReceive, if_neg h, andThen_next]
    simp only [h, Nat.not_lt.mp h, false_and, true_and, false_or]

theorem txnSend_next {t : Txn} {s u : State} :
    txnSend t s = .next u ↔
      s.busy = false ∧ t.payload.length ≤ 65535 ∧
        txnReceive (sentTxn t (sendWhole s t.expectOp t.payload))
          (awaitResponse t (sendWhole s t.expectOp t.payload)) = .next u := by
  simp only [txnSend, andThen_next, encodeOp_next]
  constructor
  · rintro ⟨_, ⟨h1, h2, rfl⟩, h3⟩
    exact ⟨h1, h2, h3⟩
  · rintro ⟨h1, h2, h3⟩
    exact ⟨_, ⟨h1, h2, rfl⟩, h3⟩

/-- What a level A transaction is made of (R227): begin, drain, send and receive, and the end. -/
theorem transact_next {c : Command} {opcode : Byte} {payload : List Byte} {s t : State} :
    transact c opcode payload s = .next t ↔
      ∃ u, txnBegin c opcode payload s = .next u ∧
        ∃ v, txnSend (newTxn c opcode payload) (txnDrain (newTxn c opcode payload) u) = .next v ∧ txnEnd v = t := by
  simp only [transact, andThen_next, Host.Outcome.next.injEq]

/-- What a step in `Sending` can do at level B: start the frame, or emit one byte of it. -/
theorem sendStep_next {t : Txn} {s u : State} :
    sendStep t s = .next u ↔
      (s.txBusy = true ∧ ∃ b, txByte s = some b ∧
          (if (sendByte s b).txBusy then sendByte s b else awaitResponse t (sendByte s b)) = u) ∨
        (s.txBusy = false ∧ s.busy = false ∧ t.payload.length ≤ 65535 ∧
          sendStart s t.expectOp t.payload = u) := by
  cases h : s.txBusy with
  | false => simp [sendStep, h, startOp_next]
  | true =>
    simp only [sendStep, h, if_true, andThen_next, stepOp_next, Host.Outcome.next.injEq, true_and]
    constructor
    · rintro ⟨_, ⟨b, hb, rfl⟩, rfl⟩
      exact Or.inl ⟨b, hb, rfl⟩
    · rintro (⟨b, hb, rfl⟩ | ⟨hf, -⟩)
      · exact ⟨_, ⟨b, hb, rfl⟩, rfl⟩
      · simp at hf

/-- What a step in `AwaitingResponse` can do at level B: `RX_START`, take a byte, end it with `E` bytes, or time
out. -/
theorem receiveStep_next {t : Txn} {s u : State} :
    receiveStep t s = .next u ↔
      (s.rxBusy = false ∧ s.busy = false ∧ receiveStart s t.expectOp = u) ∨
      (s.rxBusy = true ∧ t.expectLen ≤ s.rxN.toNat ∧ txnValidate t (readClose s) = u) ∨
      (s.rxBusy = true ∧ s.rxN.toNat < t.expectLen ∧ ∃ b rest, s.stream.buffered = b :: rest ∧
        rxByteOp b (readTake 1 s) = .next u) ∨
      (s.rxBusy = true ∧ s.rxN.toNat < t.expectLen ∧ s.stream.buffered = [] ∧
        txnTimeout t (readClose s) = .next u) := by
  cases h : s.rxBusy with
  | false => simp [receiveStep, h, rxStartOp_next]
  | true =>
    by_cases hn : t.expectLen ≤ s.rxN.toNat
    · simp [receiveStep, h, hn, Nat.not_lt.mpr hn]
    · cases hb : s.stream.buffered <;> simp [receiveStep, h, hn, Nat.not_le.mp hn, hb]

/-- Everything a step of a level B transaction can do, state by state. -/
theorem txnAdvance_next {t : Txn} {s u : State} :
    txnAdvance t s = .next u ↔
      (t.stage = .draining ∧ txnDrain t s = u) ∨
      (t.stage = .sending ∧ sendStep t s = .next u) ∨
      (t.stage = .awaitingResponse ∧ receiveStep t s = .next u) ∨
      (t.stage = .validating ∧ ∃ v, rxEndOp s = .next v ∧ txnConclude t v = .next u) ∨
      (t.stage = .complete ∧ txnEnd s = u) ∨
      (t.stage = .failed ∧ txnEnd s = u) := by
  cases h : t.stage <;> simp [txnAdvance, h, andThen_next]

/-! ### Steps and runs -/

@[simp] theorem run_nil (s : State) : run [] s = .next s := rfl

theorem run_cons (i : Instr) (ops : List Instr) (s : State) : run (i :: ops) s = andThen (exec i s) (run ops) := rfl

/-- Running two lists is running them one after the other. -/
theorem run_append (xs ys : List Instr) (s : State) : run (xs ++ ys) s = andThen (run xs s) (run ys) := by
  induction xs generalizing s with
  | nil => rfl
  | cons i xs ih =>
    simp only [List.cons_append, run_cons]
    cases exec i s with
    | next t => simp [andThen, ih]
    | fault e => rfl
    | refused r => rfl

@[simp] theorem stepN_zero (s : State) : stepN 0 s = .next s := rfl

theorem stepN_succ (n : Nat) (s : State) : stepN (n + 1) s = andThen (step s) (stepN n) := rfl

/-- `m + n` steps are `m` steps and then `n`. -/
theorem stepN_add (m n : Nat) (s : State) : stepN (m + n) s = andThen (stepN m s) (stepN n) := by
  induction m generalizing s with
  | zero => simp [andThen]
  | succ m ih =>
    rw [Nat.add_right_comm, stepN_succ, stepN_succ]
    cases step s with
    | next t => simp [andThen, ih]
    | fault e => rfl
    | refused r => rfl

/-- Everything the host's action can do. -/
theorem runAction_next {a : HostAction} {s t : State} :
    runAction a s = .next t ↔
      (∃ r i, a = .issue r ∧ decodeRequest r = .ok i ∧ exec i s = .next t) ∨
      (∃ i, a = .levelB i ∧ levelBOp i s = .next t) ∨
      (a = .connect ∧ connectOp s = .next t) ∨ (a = .close ∧ closeOp s = .next t) := by
  cases a with
  | issue r => cases hd : decodeRequest r <;> simp [runAction, runRequest, hd]
  | levelB i => simp [runAction]
  | connect => simp [runAction]
  | close => simp [runAction]

/-- Everything a step can do. -/
theorem step_next {s t : State} :
    step s = .next t ↔
      (s.resetInput = true ∧ assertReset s = t) ∨
      (s.resetInput = false ∧ ∃ x, s.txn = some x ∧ txnAdvance x s = .next t) ∨
      (s.resetInput = false ∧ s.txn = none ∧ s.actions = [] ∧ s = t) ∨
      (s.resetInput = false ∧ s.txn = none ∧ ∃ a rest, s.actions = a :: rest ∧
        runAction a { s with actions := rest } = .next t) := by
  cases h : s.resetInput with
  | true => simp [step, h]
  | false =>
    cases hx : s.txn with
    | some x => simp [step, h, hx]
    | none => cases hq : s.actions <;> simp [step, h, hx, hostStep, nextAction, hq]

end Sys2Proof.Machine
end

