-- ==== Sys2Proof/Laws/PerInstr.lean ====
section
/-! SUPPORT. Facts about every instruction as syntax, one lemma per constructor: a pseudo row has the request
of its expansion, expanding twice is expanding once, and an expansion keeps the operand ranges (spec/30_encoding.md
R107, R108). -/

namespace Sys2Proof.Laws

/-- A pseudo row is another name of its expansion (R107, R108). -/
def Expansion.Statement (i : Instr) : Prop :=
  encodeRequest i.expand = encodeRequest i ∧ i.expand.expand = i.expand ∧ (i.wf = true → i.expand.wf = true)

theorem Expansion.version : Expansion.Statement .version := ⟨rfl, rfl, id⟩
theorem Expansion.spiTransfer (payload : List Byte) : Expansion.Statement (.spiTransfer payload) := ⟨rfl, rfl, id⟩
theorem Expansion.led (payload : List Byte) : Expansion.Statement (.led payload) := ⟨rfl, rfl, id⟩
theorem Expansion.readGpio : Expansion.Statement .readGpio := ⟨rfl, rfl, id⟩
theorem Expansion.crcSeed (v : Word) : Expansion.Statement (.crcSeed v) := ⟨rfl, rfl, id⟩
theorem Expansion.crcUpdate (b : Byte) : Expansion.Statement (.crcUpdate b) := ⟨rfl, rfl, id⟩
theorem Expansion.crcCompute (buf : List Byte) : Expansion.Statement (.crcCompute buf) := ⟨rfl, rfl, id⟩
theorem Expansion.encode (opcode : Byte) (payload : List Byte) : Expansion.Statement (.encode opcode payload) :=
  ⟨rfl, rfl, id⟩
theorem Expansion.decode (expect : Byte) (buf : List Byte) : Expansion.Statement (.decode expect buf) :=
  ⟨rfl, rfl, id⟩
theorem Expansion.rxAbort : Expansion.Statement .rxAbort := ⟨rfl, rfl, id⟩
theorem Expansion.txStart (opcode : Byte) (payload : List Byte) : Expansion.Statement (.txStart opcode payload) :=
  ⟨rfl, rfl, id⟩
theorem Expansion.txStep : Expansion.Statement .txStep := ⟨rfl, rfl, id⟩
theorem Expansion.rxStart (expect : Byte) : Expansion.Statement (.rxStart expect) := ⟨rfl, rfl, id⟩
theorem Expansion.rxByte (b : Byte) : Expansion.Statement (.rxByte b) := ⟨rfl, rfl, id⟩
theorem Expansion.rxEnd : Expansion.Statement .rxEnd := ⟨rfl, rfl, id⟩
theorem Expansion.crcInit : Expansion.Statement .crcInit := ⟨rfl, rfl, id⟩
theorem Expansion.readRegister (r : Byte) : Expansion.Statement (.readRegister r) :=
  ⟨rfl, rfl, fun _ => by simp [Instr.expand, Instr.wf]⟩
theorem Expansion.ledOn : Expansion.Statement .ledOn := ⟨rfl, rfl, fun _ => by simp [Instr.expand, Instr.wf]⟩
theorem Expansion.ledOff : Expansion.Statement .ledOff := ⟨rfl, rfl, fun _ => by simp [Instr.expand, Instr.wf]⟩

end Sys2Proof.Laws
end

