-- ==== Sys2Proof/Tests/Slice0.lean ====
section
/-! SUPPORT. The model's own tests: an ill-formed term for each check of WellFormed, the decoder on words written out
from spec/30_encoding.md, one or two steps per instruction with the expected values of the spec's examples and of
spec/95_test_vectors.md, and for every obligation with hypotheses a state and operands that meet them (`witness_…`,
by the obligation's name). -/

namespace Sys2Proof.Tests

open Sys2Proof Sys2Proof.Machine

/-! ## Helpers: small states -/

/-- What a result's next state satisfies; false for a refusal. -/
def after (r : Result) (p : State → Bool) : Bool :=
  match r with
  | .next t => p t
  | .fault _ => false
  | .refused _ => false

/-- Whether a result is this refusal. -/
def refusedAs (r : Result) (why : Refusal) : Bool :=
  match r with
  | .next _ => false
  | .fault _ => false
  | .refused x => x == why

/-- `LED [01]` as a frame (R193). -/
def ledFrame : List Byte := [0xAB#8, 0xCD#8, 0x02#8, 0x00#8, 0x01#8, 0x01#8, 0x4A#8, 0xB8#8]

/-- The 24-byte VERSION response of R191's example. -/
def versionResponse : List Byte :=
  [0xAB#8, 0xCD#8, 0x00#8, 0x00#8, 0x11#8, 0x01#8, 0x02#8, 0x03#8, 0x53#8, 0x58#8, 0x31#8, 0x32#8,
   0x37#8, 0x78#8, 0x2D#8, 0x62#8, 0x72#8, 0x69#8, 0x64#8, 0x67#8, 0x65#8, 0x00#8, 0xAE#8, 0xB7#8]

/-- The READ_GPIO response of R194's example. -/
def gpioResponse : List Byte := [0xAB#8, 0xCD#8, 0x03#8, 0x00#8, 0x00#8, 0x01#8, 0x00#8, 0xCC#8, 0xEF#8]

/-- The SPI_TRANSFER response of R192's example. -/
def spiResponse : List Byte :=
  [0xAB#8, 0xCD#8, 0x01#8, 0x00#8, 0x04#8, 0x00#8, 0x00#8, 0xAA#8, 0xBB#8, 0x24#8, 0xAC#8]

/-- An SPI_TRANSFER response of 11 bytes that validates although its length field is 1 (R192, R101). -/
def shortSpiResponse : List Byte :=
  [0xAB#8, 0xCD#8, 0x01#8, 0x00#8, 0x01#8, 0x00#8, 0x00#8, 0xAA#8, 0xBB#8, 0x07#8, 0xFB#8]

/-- A READ_REGISTER response of 9 bytes that validates although its length field is 0 (R195, R101). -/
def shortRegisterResponse : List Byte := [0xAB#8, 0xCD#8, 0x01#8, 0x00#8, 0x00#8, 0x00#8, 0x12#8, 0x89#8, 0x2E#8]

/-- The READ_REGISTER response of R195's example. -/
def registerResponse : List Byte := [0xAB#8, 0xCD#8, 0x01#8, 0x00#8, 0x02#8, 0x00#8, 0x12#8, 0xE7#8, 0x4E#8]

/-- Reset, with a device that answers `bs` in time, and one late byte. -/
def answering (bs : List Byte) : State :=
  { State.reset with stream := { buffered := [0x55#8], late := [], arrivals := [{ inTime := bs, late := [0x77#8] }] } }

/-- Sending the LED frame, at index `k`, with the CRC so far (R145's example). -/
def sendingAt (k : Nat) (c : Word) : State :=
  { State.reset with
    txOpcode := 0x02#8, txLen := 1#16, txbuf := Mem.ofBytes 0 [0x01#8], txIdx := BitVec.ofNat 17 k, txBusy := true,
    crc := c }

/-- Receiving `bs` with `expect` 0x02 (R169). -/
def receiving (bs : List Byte) : State :=
  { State.reset with
    rxExpect := 0x02#8, rxN := BitVec.ofNat 17 bs.length, rxbuf := Mem.ofBytes 0 bs, rxBusy := true,
    crc := receivedCrc bs }

/-- A state whose `RX_N` is `n` while only two bytes of `RXBUF` are listed: those `RX_BYTE` folds and checks. -/
def receivingAt (n : Nat) : State :=
  { State.reset with
    rxN := BitVec.ofNat 17 n, rxbuf := [(n - 2, 0x5A#8), (n - 1, 0xA5#8)], rxBusy := true }

/-- `s` with these actions left to the host. -/
def doing (s : State) (as : List HostAction) : State := { s with actions := as }

/-- `s` with this transaction of `LED [01]` in flight, its frame sent and `E` = 8. -/
def inStage (stage : Stage) (s : State) : State :=
  setTxn s (some
    { command := .setLed, expectOp := 0x02#8, payload := [0x01#8], stage := stage, sent := ledFrame, expectLen := 8 })

/-- `n` bytes `b`. -/
def bytes (n : Nat) (b : Byte) : List Byte := List.replicate n b

@[simp] theorem length_bytes (n : Nat) (b : Byte) : (bytes n b).length = n := List.length_replicate

/-! ## Well-formedness: an ill-formed term for each check (R105) -/

theorem test_wf_spiTransfer_refuses (b : Byte) : (Instr.spiTransfer (bytes 65536 b)).wf = false := by
  simp [Instr.wf]

theorem test_wf_led_refuses (b : Byte) : (Instr.led (bytes 65536 b)).wf = false := by
  simp [Instr.wf]

theorem test_wf_encode_refuses (b : Byte) : (Instr.encode 0x01#8 (bytes 65536 b)).wf = false := by
  simp [Instr.wf]

theorem test_wf_txStart_refuses (b : Byte) : (Instr.txStart 0x00#8 (bytes 65536 b)).wf = false := by
  simp [Instr.wf]

theorem test_wf_decode_refuses (b : Byte) : (Instr.decode 0x00#8 (bytes 65543 b)).wf = false := by
  simp [Instr.wf]

theorem test_wf_longest_accepted (b : Byte) :
    (Instr.encode 0x03#8 (bytes 65535 b)).wf = true ∧
      (Instr.decode 0x03#8 (bytes 65542 b)).wf = true := by
  simp [Instr.wf]

/-! ## Decoding: words written out from R90, R96, R98 and R103, every constructor's -/

theorem test_decode_version :
    decodeRequest (.frame [0b10101011#8, 0b11001101#8, 0b00000000#8, 0b00000000#8, 0b00000000#8]) = .ok .version := by decide

theorem test_decode_spiTransfer :
    decodeRequest (.frame [0b10101011#8, 0b11001101#8, 0b00000001#8, 0b00000000#8, 0b00000001#8, 0b10000001#8]) =
      .ok (.spiTransfer [0x81#8]) := by decide

theorem test_decode_led :
    decodeRequest (.frame [0b10101011#8, 0b11001101#8, 0b00000010#8, 0b00000000#8, 0b00000001#8, 0b00000001#8]) =
      .ok (.led [0x01#8]) := by decide

theorem test_decode_readGpio :
    decodeRequest (.frame [0b10101011#8, 0b11001101#8, 0b00000011#8, 0b00000000#8, 0b00000000#8]) = .ok .readGpio := by decide

theorem test_decode_crcSeed : decodeRequest (.op [0b00000000#8, 0x12#8, 0x34#8]) = .ok (.crcSeed 0x1234#16) := by decide

theorem test_decode_crcUpdate : decodeRequest (.op [0b00000001#8, 0x56#8]) = .ok (.crcUpdate 0x56#8) := by decide

theorem test_decode_crcCompute :
    decodeRequest (.op [0b00000010#8, 0x31#8, 0x32#8]) = .ok (.crcCompute [0x31#8, 0x32#8]) := by decide

theorem test_decode_encode :
    decodeRequest (.op [0b00000011#8, 0x02#8, 0x01#8]) = .ok (.encode 0x02#8 [0x01#8]) := by decide

theorem test_decode_decode :
    decodeRequest (.op [0b00000100#8, 0x02#8, 0xAB#8, 0xCD#8]) = .ok (.decode 0x02#8 [0xAB#8, 0xCD#8]) := by decide

theorem test_decode_rxAbort : decodeRequest (.op [0b00000101#8]) = .ok .rxAbort := by decide

theorem test_decode_txStart :
    decodeRequest (.op [0b00001000#8, 0x02#8, 0x01#8]) = .ok (.txStart 0x02#8 [0x01#8]) := by decide

theorem test_decode_txStep : decodeRequest (.op [0b00001001#8]) = .ok .txStep := by decide

theorem test_decode_rxStart : decodeRequest (.op [0b00001010#8, 0x03#8]) = .ok (.rxStart 0x03#8) := by decide

theorem test_decode_rxByte : decodeRequest (.op [0b00001011#8, 0xAB#8]) = .ok (.rxByte 0xAB#8) := by decide

theorem test_decode_rxEnd : decodeRequest (.op [0b00001100#8]) = .ok .rxEnd := by decide

/-- The pseudo rows have no encoding of their own: their words are those of what they expand to (R107, R108). -/
theorem test_decode_pseudo_rows :
    decodeRequest (.op [0b00000000#8, 0xFF#8, 0xFF#8]) = .ok Instr.crcInit.expand ∧
      decodeRequest (.frame [0xAB#8, 0xCD#8, 0x01#8, 0x00#8, 0x02#8, 0x42#8, 0x00#8]) =
        .ok (Instr.readRegister 0x42#8).expand ∧
      decodeRequest (.frame [0xAB#8, 0xCD#8, 0x02#8, 0x00#8, 0x01#8, 0x01#8]) = .ok Instr.ledOn.expand ∧
      decodeRequest (.frame [0xAB#8, 0xCD#8, 0x02#8, 0x00#8, 0x01#8, 0x00#8]) = .ok Instr.ledOff.expand := by decide

/-- R104: the reserved codes, and a request that is no instruction (Log 1, Log 17). -/
theorem test_decode_rejects_by_name :
    decodeRequest (.op [0x06#8]) = .error (.reservedOperation 0x6#4) ∧
      decodeRequest (.op [0x0F#8]) = .error (.reservedOperation 0xF#4) ∧
      decodeRequest (.op []) = .error .emptyRequest ∧
      decodeRequest (.op [0x10#8]) = .error (.wideOperation 0x10#8) ∧
      decodeRequest (.op [0x09#8, 0x00#8]) = .error .operandBytes ∧
      decodeRequest (.frame [0xAB#8, 0xCD#8, 0x00#8, 0x00#8]) = .error .frameHeader ∧
      decodeRequest (.frame [0xAB#8, 0xCD#8, 0x04#8, 0x00#8, 0x00#8]) = .error (.frameOpcode 0x04#8) ∧
      decodeRequest (.frame [0xAB#8, 0xCD#8, 0x00#8, 0x00#8, 0x01#8, 0x00#8]) = .error .framePayload := by decide

/-- The words of spec/opcode_table.json, as it numbers them. -/
theorem test_table_words :
    decodeTableWord 40 0xABCD000000 = some .version ∧ decodeTableWord 40 0xABCD010000 = some (.spiTransfer []) ∧
      decodeTableWord 40 0xABCD020000 = some (.led []) ∧ decodeTableWord 40 0xABCD030000 = some .readGpio ∧
      decodeTableWord 8 0x0 = some (.crcSeed 0x0000#16) ∧ decodeTableWord 8 0x3 = some (.encode 0x00#8 []) ∧
      decodeTableWord 8 0x9 = some .txStep ∧ decodeTableWord 8 0xD = none ∧
      decodeTableWord 40 0xABCD010002 = some (.spiTransfer [0x00#8, 0x00#8]) := by decide

/-- R108: the opcode byte alone selects a frame, mask 0x0000FF0000. -/
theorem test_table_words_by_opcode_alone :
    decodeTableWord 40 0x1234020001 = some (.led [0x00#8]) ∧ decodeTableWord 40 0xABCD000011 = some .version ∧
      decodeTableWord 40 0x0000030009 = some .readGpio ∧ decodeTableWord 40 0xABCD040000 = none := by decide

/-- The word is the very next instruction (`withFetchWord`). -/
theorem test_withFetchWord_runs :
    after (step (State.reset.withFetchWord 8 0x8)) (fun t => t.txBusy && t.actions == []) = true := by decide

/-! ## The CRC engine -/

/-- R123: `CRC_SEED 0x1234`. -/
theorem test_crcSeed : after (exec (.crcSeed 0x1234#16) .reset) (fun t => t.crc == 0x1234#16) = true := by decide

/-- R124: `CRC_UPDATE 0x31` after reset, and R123's example. -/
theorem test_crcUpdate :
    after (exec (.crcUpdate 0x31#8) .reset) (fun t => t.crc == 0xC782#16) = true ∧
      after (exec (.crcUpdate 0x56#8) { State.reset with crc := 0x1234#16 }) (fun t => t.crc == 0x3C40#16) = true := by
  decide

/-- R125, R128 (c): "123456789". -/
theorem test_crcCompute :
    after (exec (.crcCompute [0x31#8, 0x32#8, 0x33#8, 0x34#8, 0x35#8, 0x36#8, 0x37#8, 0x38#8, 0x39#8]) .reset)
      (fun t => t.crc == 0x29B1#16) = true := by decide +kernel

/-- R126: after another seed. -/
theorem test_crcInit :
    after (exec .crcInit { State.reset with crc := 0x1234#16 }) (fun t => t.crc == 0xFFFF#16) = true := by decide

/-! ## The framer -/

/-- R142's example, and R147: the framer does not check the shape of a payload. -/
theorem test_encode :
    after (exec (.encode 0x02#8 [0x01#8]) .reset) (fun t => t.txout == ledFrame && t.crc == 0x4AB8#16) = true ∧
      after (exec (.encode 0x7F#8 [0xDE#8, 0xAD#8]) .reset)
        (fun t => t.txout == [0xAB#8, 0xCD#8, 0x7F#8, 0x00#8, 0x02#8, 0xDE#8, 0xAD#8, 0x55#8, 0x7C#8]) = true := by
  decide

/-- R144's example. -/
theorem test_txStart :
    after (exec (.txStart 0x02#8 [0x01#8]) .reset)
      (fun t => t.txLen == 1#16 && (t.crc == 0xFFFF#16 && (t.txIdx == 0#17 && (t.txBusy && t.txout == [])))) = true := by
  decide

/-- R145: the payload byte is folded; the last step emits the low CRC byte and ends the run. -/
theorem test_txStep :
    after (exec .txStep (sendingAt 5 0xB2DD#16)) (fun t => t.crc == 0x4AB8#16 && t.txout == [0x01#8]) = true ∧
      after (exec .txStep (sendingAt 7 0x4AB8#16)) (fun t => t.txout == [0xB8#8] && t.txBusy == false) = true := by
  decide

/-- R145, U15: refused while idle. -/
theorem test_txStep_refused : refusedAs (exec .txStep .reset) .notSending = true := by decide

/-! ## The deframer -/

/-- R168's example, and V16: a flipped opcode bit is a ChecksumMismatch. -/
theorem test_decodeOperation :
    after (exec (.decode 0x02#8 ledFrame) .reset)
        (fun t => statusReg t == 0x70#8 && deliveredBytes t == some [0x01#8]) = true ∧
      after (exec (.decode 0x02#8 [0xAB#8, 0xCD#8, 0x03#8, 0x00#8, 0x01#8, 0x01#8, 0x4A#8, 0xB8#8]) .reset)
        (fun t => statusReg t == 0x72#8 && t.crc == 0x3C0C#16) = true := by decide

/-- R241 and R243's examples. -/
theorem test_decodeOperation_errors :
    after (exec (.decode 0x02#8 [0xAB#8, 0xCD#8, 0x02#8, 0x00#8, 0x01#8, 0x01#8]) .reset)
        (fun t => t.err == 1#3 && t.crc == 0x7B6D#16) = true ∧
      after (exec (.decode 0x02#8 [0xAB#8, 0xCD#8, 0x03#8, 0x00#8, 0x00#8, 0x95#8, 0xCC#8]) .reset)
        (fun t => t.err == 3#3 && rxOpcodeView t == some 0x03#8) = true := by decide

/-- R170's example. -/
theorem test_rxStart :
    after (exec (.rxStart 0x03#8) { State.reset with trunc := true, err := 2#3, rxDone := true })
      (fun t => statusReg t == 0x88#8 && t.rxExpect == 0x03#8) = true := by decide

/-- R171's example: the fifth byte folds the opcode. -/
theorem test_rxByte :
    after (exec (.rxByte 0x01#8) (receiving [0xAB#8, 0xCD#8, 0x02#8, 0x00#8]))
      (fun t => t.crc == 0xC1B2#16 && t.rxN == 5#17) = true := by decide

/-- R172's example, and a buffer of six bytes. -/
theorem test_rxEnd :
    after (exec .rxEnd (receiving ledFrame)) (fun t => statusReg t == 0x70#8 && t.rxPlen == 1#16) = true ∧
      after (exec .rxEnd (receiving (ledFrame.take 6))) (fun t => statusReg t == 0x51#8) = true := by decide

/-- R173: `CRC` and `RX_EXPECT` keep what they held. -/
theorem test_rxAbort :
    after (exec .rxAbort (receiving ledFrame))
      (fun t => t.rxN == 0#17 && (t.rxBusy == false && (t.crc == 0x4AB8#16 && t.rxExpect == 0x02#8))) = true := by
  decide

/-! ## The transactions -/

/-- R191, R217: no answer is a Timeout, and the request is the same seven bytes. -/
theorem test_version_timeout :
    after (exec .version .reset)
      (fun t => t.results == [.failure .timeout] &&
        t.txout == [0xAB#8, 0xCD#8, 0x00#8, 0x00#8, 0x00#8, 0xCC#8, 0x9C#8]) = true := by decide

/-- R252: `read_version` on a valid frame of another opcode. -/
theorem test_version_sentinel :
    after (exec .version (answering (encodeFrame 0x04#8 (List.replicate 17 0x00#8))))
      (fun t => t.results == [.versionText "unknown"] && t.err == 3#3) = true := by decide +kernel

/-- R192's example. -/
theorem test_spiTransfer :
    after (exec (.spiTransfer [0x81#8, 0x55#8, 0x00#8, 0x00#8]) (answering spiResponse))
      (fun t => t.results == [.spiData [0x00#8, 0x00#8, 0xAA#8, 0xBB#8]] &&
        t.stream.buffered == [0x77#8]) = true := by decide +kernel

/-- R193: the exact echo, and the valid frame of the other value. -/
theorem test_led :
    after (exec (.led [0x01#8]) (answering ledFrame)) (fun t => t.results == [.ledEcho true]) = true ∧
      after (exec (.led [0x01#8]) (answering [0xAB#8, 0xCD#8, 0x02#8, 0x00#8, 0x01#8, 0x00#8, 0x5A#8, 0x99#8]))
        (fun t => t.results == [.ledEcho false] && t.err == 0#3) = true := by decide

/-- R194's example. -/
theorem test_readGpio :
    after (exec .readGpio (answering gpioResponse))
      (fun t => t.results == [.gpioState 0x01#8 0x00#8] && t.rxPlen == 0#16) = true := by decide

/-- R195's example; buffer byte 6 also where the length field is 0. -/
theorem test_readRegister :
    after (exec (.readRegister 0x42#8) (answering registerResponse))
      (fun t => t.results == [.registerValue 0x12#8] &&
        t.txout == [0xAB#8, 0xCD#8, 0x01#8, 0x00#8, 0x02#8, 0x42#8, 0x00#8, 0xBE#8, 0x93#8]) = true ∧
      after (exec (.readRegister 0x42#8) (answering shortRegisterResponse))
        (fun t => t.results == [.registerValue 0x12#8] && t.rxPlen == 0#16) = true := by decide

/-- R193: on. -/
theorem test_ledOn :
    after (exec .ledOn (answering ledFrame)) (fun t => t.results == [.ledEcho true]) = true := by decide

/-- R193: off, with the echo of the "on" frame. -/
theorem test_ledOff :
    after (exec .ledOff (answering ledFrame))
      (fun t => t.results == [.ledEcho false] &&
        t.txout == [0xAB#8, 0xCD#8, 0x02#8, 0x00#8, 0x01#8, 0x00#8, 0x5A#8, 0x99#8]) = true := by decide

/-! ## The Session and level B, one step each (R211, R212, R227) -/

/-- A connect creates the Session; a second one is refused. -/
theorem test_connect :
    after (step (doing { State.reset with session := none } [.connect])) (fun t => t.session == some Session.idle) = true ∧
      refusedAs (step (doing .reset [.connect])) .sessionOpen = true := by decide

/-- The drain discards what was buffered before the transaction, and no register changes (R213). -/
theorem test_levelB_drain :
    after (step (inStage .draining (answering ledFrame)))
      (fun t => t.stream.buffered == [] && t.txn.map Txn.stage == some .sending) = true := by decide

/-- The step that ends the frame leads to `AwaitingResponse` with `E` = 8 (R214, R216). -/
theorem test_levelB_last_byte :
    after (step (inStage .sending (sendingAt 7 0x4AB8#16)))
      (fun t => t.txn.map Txn.stage == some .awaitingResponse && t.txn.map Txn.expectLen == some 8) = true := by decide

/-- No byte left with fewer than `E` read: the buffer is discarded, Timeout is the result (R217). -/
theorem test_levelB_timeout :
    after (step (inStage .awaitingResponse (receiving (ledFrame.take 7))))
      (fun t => t.txn.map Txn.stage == some .failed && (t.results == [.ledEcho false] &&
        (t.rxN == 0#17 && t.crc == receivedCrc (ledFrame.take 7)))) = true := by decide

/-- `RX_END` on the exact echo completes the transaction (R218). -/
theorem test_levelB_complete :
    after (step (inStage .validating (receiving ledFrame)))
      (fun t => t.txn.map Txn.stage == some .complete && (t.results == [.ledEcho true] &&
        t.verdicts == [{ err := 0#3, syncOk := true, lenOk := true, plen := 1#16 }])) = true := by decide

/-- After `Complete` the Session is `Idle` again (R212). -/
theorem test_levelB_end : after (step (inStage .complete .reset)) (fun t => t.session == some Session.idle) = true := by
  decide

/-- A reset in mid-transaction: the Session is `Idle`, and what is still in flight waits in the stream (R284). -/
theorem test_reset_in_flight :
    after (step { inStage .awaitingResponse (receiving ledFrame) with
        resetInput := true, stream := { buffered := [0x01#8], late := [0x02#8], arrivals := [] } })
      (fun t => t.session == some Session.idle && (t.rxBusy == false &&
        t.stream.buffered == [0x01#8, 0x02#8])) = true := by decide

/-- A reset after the last byte of the frame and before `RX_START`: the answer is met by the next drain, and the next
read does not have it (R284). -/
theorem test_reset_before_rx_start :
    after (step
      { awaitResponse (newTxn .setLed 0x02#8 [0x01#8])
          (txnDrain (newTxn .setLed 0x02#8 [0x01#8]) (answering ledFrame)) with resetInput := true })
      (fun t => t.session == some Session.idle && (t.stream.buffered == ledFrame ++ [0x77#8] &&
        t.stream.next.inTime == [])) =
      true := by decide

/-! ## Witnesses: the hypotheses of every obligation that has some -/

/-- An idle state, and the two kinds of busy ones. -/
theorem witness_idle_and_busy :
    Idle State.reset ∧ ¬ Idle (sendingAt 0 0xFFFF#16) ∧ ¬ Idle (receiving ledFrame) := by decide

theorem witness_CrcSeedWritesOnlyCrc : Idle State.reset ∧ ¬ Idle (sendingAt 0 0xFFFF#16) := by decide

theorem witness_CrcUpdateFoldsOneByte :
    Idle State.reset ∧ State.reset.crc = 0xFFFF#16 ∧ ¬ Idle (sendingAt 0 0xFFFF#16) := by decide

theorem witness_CrcComputeFoldsTheBuffer : Idle State.reset ∧ ¬ Idle (receiving ledFrame) := by decide

theorem witness_CrcInitIsASeed : Idle { State.reset with crc := 0x1234#16 } := by decide

/-- Payload lengths at the bounds 0 and 65535. -/
theorem witness_EncodedFrameLayout (b : Byte) :
    ([] : List Byte).length ≤ 65535 ∧ (bytes 65535 b).length ≤ 65535 := by simp

/-- Lengths 1025, 1024, and another opcode. -/
theorem witness_TruncationKeepsTheFirst1024 (b : Byte) :
    1024 < (bytes 1025 b).length ∧ (bytes 1024 b).length ≤ 1024 ∧ (0x02#8 : Byte) ≠ 0x01#8 ∧
      after (exec (.encode 0x01#8 [b]) .reset) (fun t => t.trunc == false) = true := by
  refine ⟨by simp, by simp, by decide, rfl⟩

/-- Accepted at 65535 bytes, refused at 65536, refused while busy. -/
theorem witness_EncodeSendsTheWholeFrame (b : Byte) :
    Idle State.reset ∧ (bytes 65535 b).length ≤ 65535 ∧ 65535 < (bytes 65536 b).length ∧
      ¬ Idle (sendingAt 0 0xFFFF#16) := by
  simp [Idle, State.reset, sendingAt]

theorem witness_TxStartLoadsTheFrame (b : Byte) :
    Idle State.reset ∧ (bytes 65535 b).length ≤ 65535 ∧ 65535 < (bytes 65536 b).length ∧
      ¬ Idle (receiving ledFrame) := by
  simp [Idle, State.reset, receiving]

/-- The first index, the last before the payload, the payload byte, and the two trailer indices; and idle. -/
theorem witness_TxStepEmitsOneByte :
    ((sendingAt 0 0xFFFF#16).txBusy = true ∧ (sendingAt 0 0xFFFF#16).txIdx.toNat < 1 + 7) ∧
      (sendingAt 4 0x7B6D#16).txIdx.toNat = 4 ∧
      ((sendingAt 5 0xB2DD#16).txIdx.toNat ≤ (sendingAt 5 0xB2DD#16).txLen.toNat + 4 ∧
        readTxbuf (sendingAt 5 0xB2DD#16) ((sendingAt 5 0xB2DD#16).txIdx.toNat - 5) = some 0x01#8) ∧
      (sendingAt 6 0x4AB8#16).txIdx.toNat = (sendingAt 6 0x4AB8#16).txLen.toNat + 5 ∧
      (sendingAt 7 0x4AB8#16).txIdx.toNat < (sendingAt 7 0x4AB8#16).txLen.toNat + 7 ∧
      State.reset.txBusy = false ∧ Idle State.reset := by decide

theorem witness_FramerStoresThePayload :
    after (exec (.encode 0x02#8 [0x01#8]) .reset) (fun _ => true) = true ∧
      after (exec (.txStart 0x02#8 [0x01#8]) .reset) (fun _ => true) = true := by decide

theorem witness_TxRunEqualsEncode (b : Byte) :
    (bytes 65535 b).length ≤ 65535 ∧ Idle State.reset := by
  simp [Idle, State.reset]

/-- Two different payloads that are cut to the same frame. -/
theorem witness_EncodeIsInjective (b : Byte) :
    (bytes 1025 b).length ≤ 65535 ∧ (bytes 1024 b).length ≤ 65535 ∧
      encodeFrame 0x01#8 (bytes 1025 b) = encodeFrame 0x01#8 (bytes 1024 b) := by
  have cut : truncate 0x01#8 (bytes 1025 b) = bytes 1024 b := by
    rw [truncate, if_pos ⟨rfl, by rw [length_bytes]; decide⟩, bytes, List.take_replicate]
    rfl
  have whole : truncate 0x01#8 (bytes 1024 b) = bytes 1024 b := by simp [truncate]
  simp [encodeFrame, cut, whole]

/-- Each of the four results of the function. -/
theorem witness_DecodeAndValidateInOrder :
    decodeAndValidate (ledFrame.take 6) 0x02#8 = .error .frameTooShort ∧
      decodeAndValidate (ledFrame.take 7) 0x02#8 = .error .checksumMismatch ∧
      decodeAndValidate ledFrame 0x03#8 = .error .opcodeMismatch ∧
      decodeAndValidate ledFrame 0x02#8 = .ok [0x01#8] := by
  refine ⟨?_, ?_, ?_, ?_⟩ <;> rfl

/-- Accepted at 65542 bytes, refused at 65543, refused while busy. -/
theorem witness_DecodeRecordsTheVerdict (b : Byte) :
    Idle State.reset ∧ (bytes 65542 b).length ≤ 65542 ∧ 65542 < (bytes 65543 b).length ∧
      ¬ Idle (receiving ledFrame) := by
  simp [Idle, State.reset, receiving]

theorem witness_RxStartBeginsEmpty :
    Idle State.reset ∧ ¬ Idle (sendingAt 0 0xFFFF#16) ∧
      after (exec (.rxStart 0x03#8) .reset) (fun _ => true) = true := by decide

/-- `RX_N` at 0, 3, 4, 65541 and 65542, and not receiving. -/
theorem witness_RxByteStoresAndFolds :
    ((receiving []).rxBusy = true ∧ (receiving []).rxN.toNat < 4) ∧ (receiving (ledFrame.take 3)).rxN.toNat < 4 ∧
      (4 ≤ (receiving (ledFrame.take 4)).rxN.toNat ∧
        readRxbuf (receiving (ledFrame.take 4)) ((receiving (ledFrame.take 4)).rxN.toNat - 2) = some 0x02#8) ∧
      ((receivingAt 65541).rxN.toNat < 65542 ∧
        readRxbuf (receivingAt 65541) ((receivingAt 65541).rxN.toNat - 2) = some 0x5A#8) ∧
      ((receivingAt 65542).rxBusy = true ∧ (receivingAt 65542).rxN = 65542#17) ∧
      State.reset.rxBusy = false ∧ Idle State.reset := by decide

theorem witness_RxByteStoresOnlyItsByte :
    after (exec (.rxByte 0x11#8) (receiving ledFrame)) (fun _ => true) = true ∧
      after (exec (.rxByte 0x11#8) (receivingAt 65541)) (fun _ => true) = true := by decide

/-- `RX_N` at 6 and 7, with the fields that `RX_END` reads; not receiving; the example's start. -/
theorem witness_RxEndReportsTheVerdict :
    ((receiving (ledFrame.take 6)).rxBusy = true ∧ (receiving (ledFrame.take 6)).rxN.toNat < 7) ∧
      (7 ≤ (receiving (ledFrame.take 7)).rxN.toNat ∧ rxLenView (receiving (ledFrame.take 7)) = some 0x0001#16 ∧
        readRxWord (receiving (ledFrame.take 7)) ((receiving (ledFrame.take 7)).rxN.toNat - 2) = some 0x014A#16 ∧
        rxOpcodeView (receiving (ledFrame.take 7)) = some 0x02#8) ∧
      State.reset.rxBusy = false ∧ Idle State.reset ∧ State.reset.trunc = false := by decide

theorem witness_RxAbortDiscardsTheBuffer :
    (receiving ledFrame).txBusy = false ∧ State.reset.txBusy = false ∧ (sendingAt 0 0xFFFF#16).txBusy = true := by
  decide

theorem witness_RxRunEqualsDecode (b : Byte) :
    ([] : List Byte).length ≤ 65542 ∧ (bytes 65542 b).length ≤ 65542 ∧ Idle State.reset ∧
      decodeAndValidate ledFrame 0x03#8 = .error .opcodeMismatch ∧
      decodeAndValidate ledFrame 0x02#8 = .ok [0x01#8] := by
  refine ⟨by simp, by simp, ⟨rfl, rfl⟩, rfl, rfl⟩

theorem witness_FrameRoundTrip (b : Byte) :
    (bytes 65535 b).length ≤ 65535 ∧ ((0x02#8 : Byte) ≠ 0x01#8 ∨ (bytes 65535 b).length ≤ 1024) ∧
      ((0x01#8 : Byte) ≠ 0x01#8 ∨ (bytes 1024 b).length ≤ 1024) := by simp

/-- The first and the last byte of each clause, bits 0 and 7. -/
theorem witness_SingleBitFlipIsDetected :
    [0x01#8].length ≤ 65535 ∧ 7 < 8 ∧ (2 ≤ 2 ∧ 2 < (encodeFrame 0x02#8 [0x01#8]).length) ∧
      (2 ≤ 7 ∧ 7 < (encodeFrame 0x02#8 [0x01#8]).length) ∧ 0 < 2 ∧ 1 < 2 := by decide

theorem witness_AppendedZerosStillValidate (b : Byte) : (bytes 65535 b).length ≤ 65535 ∧ 1 ≤ 1 := by simp

/-- A reported error of each operation that reports one. -/
theorem witness_ReportKeepsEverythingElse :
    after (exec .rxEnd (receiving (ledFrame.take 7))) (fun t => t.err != 0#3) = true ∧
      after (exec .rxEnd (receiving (ledFrame.take 6))) (fun t => t.err != 0#3) = true ∧
      after (exec (.decode 0x03#8 ledFrame) .reset) (fun t => t.err != 0#3) = true := by decide

/-- A state that satisfies the invariant with both buffers in use: after `ENCODE 0x02, [01]` and a decode under way. -/
theorem witness_inv_receiving :
    Inv { receiving (ledFrame.take 5) with
      txOpcode := 0x02#8, txLen := 1#16, txbuf := Mem.ofBytes 0 [0x01#8], txIdx := 8#17 } := by
  refine ⟨⟨?_, ?_, ?_, ?_, ?_, ?_, ?_, ?_, ?_, ?_, ?_, ?_, ?_, ?_⟩, fun _ h => nomatch h⟩ <;> decide

/-- A state that satisfies the invariant while sending. -/
theorem witness_inv_sending : Inv (sendingAt 5 0xB2DD#16) := by
  refine ⟨⟨?_, ?_, ?_, ?_, ?_, ?_, ?_, ?_, ?_, ?_, ?_, ?_, ?_, ?_⟩, fun _ h => nomatch h⟩ <;> decide

/-- A state that satisfies the invariant with a verdict. -/
theorem witness_inv_verdict :
    Inv { receiving ledFrame with
      rxBusy := false, rxDone := true, rxPlen := 1#16, syncOk := true, lenOk := true } := by
  refine ⟨⟨?_, ?_, ?_, ?_, ?_, ?_, ?_, ?_, ?_, ?_, ?_, ?_, ?_, ?_⟩, fun _ h => nomatch h⟩ <;> decide

theorem witness_StatusPacking : Inv (sendingAt 5 0xB2DD#16) := witness_inv_sending

/-- `LED [01]` in flight in each state: just begun, in mid-frame, before and in the read, at its end, and over. -/
theorem witness_inv_in_flight :
    Inv (inStage .draining .reset) ∧ Inv (inStage .sending (sendingAt 5 0xB2DD#16)) ∧
      Inv (inStage .awaitingResponse .reset) ∧ Inv (inStage .awaitingResponse (receiving (ledFrame.take 5))) ∧
      Inv (inStage .validating (receiving ledFrame)) ∧ Inv (inStage .failed .reset) := by
  refine ⟨⟨⟨?_, ?_, ?_, ?_, ?_, ?_, ?_, ?_, ?_, ?_, ?_, ?_, ?_, ?_⟩, ?_⟩,
    ⟨⟨?_, ?_, ?_, ?_, ?_, ?_, ?_, ?_, ?_, ?_, ?_, ?_, ?_, ?_⟩, ?_⟩,
    ⟨⟨?_, ?_, ?_, ?_, ?_, ?_, ?_, ?_, ?_, ?_, ?_, ?_, ?_, ?_⟩, ?_⟩,
    ⟨⟨?_, ?_, ?_, ?_, ?_, ?_, ?_, ?_, ?_, ?_, ?_, ?_, ?_, ?_⟩, ?_⟩,
    ⟨⟨?_, ?_, ?_, ?_, ?_, ?_, ?_, ?_, ?_, ?_, ?_, ?_, ?_, ?_⟩, ?_⟩,
    ⟨⟨?_, ?_, ?_, ?_, ?_, ?_, ?_, ?_, ?_, ?_, ?_, ?_, ?_, ?_⟩, ?_⟩⟩
  on_goal 15 => intro t h; cases h; exact ⟨by decide, by decide⟩
  on_goal 29 => intro t h; cases h; exact ⟨by decide, by decide⟩
  on_goal 43 => intro t h; cases h; exact ⟨by decide, by decide, by decide, by decide⟩
  on_goal 57 => intro t h; cases h; exact ⟨by decide, by decide, by decide, by decide⟩
  on_goal 71 => intro t h; cases h; exact ⟨by decide, by decide, by decide, by decide, by decide⟩
  on_goal 85 => intro t h; cases h; exact ⟨by decide, by decide⟩
  all_goals decide

/-- Buffers of 0 to 7 bytes while receiving, and of 7 bytes with `RX_BUSY` = 0. -/
theorem witness_ViewsOfTheReceivedBuffer :
    (State.reset.rxbuf = Mem.ofBytes 0 [] ∧ State.reset.rxN.toNat = 0) ∧
      (∀ n : Fin 8, (receiving (ledFrame.take n)).rxbuf = Mem.ofBytes 0 (ledFrame.take n) ∧
        (receiving (ledFrame.take n)).rxN.toNat = (ledFrame.take n).length ∧ (ledFrame.take n).length = n ∧
        (receiving (ledFrame.take n)).rxBusy = true) ∧
      ({ receiving (ledFrame.take 7) with rxBusy := false }.rxbuf = Mem.ofBytes 0 (ledFrame.take 7) ∧
        { receiving (ledFrame.take 7) with rxBusy := false }.rxN.toNat = (ledFrame.take 7).length ∧
        { receiving (ledFrame.take 7) with rxBusy := false }.rxBusy = false) := by decide

/-- Each view at the fewest bytes that define it. -/
theorem witness_HostReadsOfRegisters :
    (∀ n : Fin 8, (receiving (ledFrame.take n)).rxbuf = Mem.ofBytes 0 (ledFrame.take n) ∧
        (receiving (ledFrame.take n)).rxN.toNat = (ledFrame.take n).length) ∧
      2 ≤ (ledFrame.take 2).length ∧ 3 ≤ (ledFrame.take 3).length ∧ 5 ≤ (ledFrame.take 5).length ∧
      ({ receiving (ledFrame.take 7) with rxBusy := false }.rxN.toNat = (ledFrame.take 7).length ∧
        { receiving (ledFrame.take 7) with rxBusy := false }.rxBusy = false ∧ 7 ≤ (ledFrame.take 7).length) := by decide

/-- The first index outside and the last index inside each buffer. -/
theorem witness_BufferReadsAreBounded :
    (sendingAt 5 0xB2DD#16).txLen.toNat ≤ 1 ∧ 0 < (sendingAt 5 0xB2DD#16).txLen.toNat ∧
      (receiving (ledFrame.take 5)).rxN.toNat ≤ 5 ∧ 4 < (receiving (ledFrame.take 5)).rxN.toNat ∧
      Inv (sendingAt 5 0xB2DD#16) :=
  ⟨by decide, by decide, by decide, by decide, witness_inv_sending⟩

/-- In mid-frame, with a transaction in flight, and before a level B transaction whose frame and whose answer have eight
bytes each: the first and the last `j` inside the frame, and the last `k`. -/
theorem witness_ResetInputResetsTheBlock :
    { sendingAt 5 0xB2DD#16 with resetInput := true }.resetInput = true ∧
      { inStage .sending (sendingAt 5 0xB2DD#16) with resetInput := true }.resetInput = true ∧
      (frameOf .ledOn = some (.setLed, 0x02#8, [0x01#8]) ∧ Idle (doing (answering ledFrame) [.levelB .ledOn]) ∧
        Rests (doing (answering ledFrame) [.levelB .ledOn]) ∧
        (doing (answering ledFrame) [.levelB .ledOn]).resetInput = false ∧
        (doing (answering ledFrame) [.levelB .ledOn]).actions = .levelB .ledOn :: []) ∧
      (0 < (truncate 0x02#8 [0x01#8]).length + 7 ∧ 7 < (truncate 0x02#8 [0x01#8]).length + 7) ∧
      (Command.setLed.expectLen (truncate 0x02#8 [0x01#8]).length = 8 ∧
        (answering ledFrame).stream.next.inTime.length = 8) := by decide

/-- Seven bytes of the eight that LED expects; no byte, for each of the other frames. -/
theorem witness_TransactionTimesOut :
    (frameOf (.led [0x01#8]) = some (.setLed, 0x02#8, [0x01#8]) ∧ Idle (answering (ledFrame.take 7)) ∧
      Rests (answering (ledFrame.take 7)) ∧
      (answering (ledFrame.take 7)).stream.next.inTime.length <
        Command.setLed.expectLen (truncate 0x02#8 [0x01#8]).length) ∧
      (frameOf .version = some (.readVersion, 0x00#8, []) ∧ State.reset.stream.next.inTime.length < 24 ∧
        Rests State.reset) := by decide

/-- Exactly the eight bytes that LED expects. -/
theorem witness_TransactionEncodesThenDecodes :
    frameOf .ledOn = some (.setLed, 0x02#8, [0x01#8]) ∧ Idle (answering ledFrame) ∧ Rests (answering ledFrame) ∧
      Command.setLed.expectLen (truncate 0x02#8 [0x01#8]).length ≤ (answering ledFrame).stream.next.inTime.length := by
  decide

/-- `LED on` at level B: exactly the eight bytes, and seven of them. -/
theorem witness_LevelBTransactionFollowsLevelA :
    (frameOf .ledOn = some (.setLed, 0x02#8, [0x01#8]) ∧ Idle (doing (answering ledFrame) [.levelB .ledOn]) ∧
      Rests (doing (answering ledFrame) [.levelB .ledOn]) ∧
      (doing (answering ledFrame) [.levelB .ledOn]).resetInput = false ∧
      (doing (answering ledFrame) [.levelB .ledOn]).actions = .levelB .ledOn :: [] ∧
      Command.setLed.expectLen (truncate 0x02#8 [0x01#8]).length ≤ (answering ledFrame).stream.next.inTime.length) ∧
      ((doing (answering (ledFrame.take 7)) [.levelB .ledOn]).actions = .levelB .ledOn :: [] ∧
        (answering (ledFrame.take 7)).stream.next.inTime.length <
          Command.setLed.expectLen (truncate 0x02#8 [0x01#8]).length) := by decide

/-- Without a Session, with one that is `Idle`, and with a transaction in flight. -/
theorem witness_SessionLife :
    ((doing { State.reset with session := none } [.connect]).session = none ∧
      (doing { State.reset with session := none } [.connect]).resetInput = false ∧
      (doing { State.reset with session := none } [.connect]).actions = .connect :: [] ∧
      (doing { State.reset with session := none } [.close]).actions = .close :: []) ∧
      (Rests (doing .reset [.connect]) ∧ Rests (doing .reset [.close])) ∧
      frameOf .version = some (.readVersion, 0x00#8, []) ∧
      (inStage .sending .reset).txn = some
        { command := .setLed, expectOp := 0x02#8, payload := [0x01#8], stage := .sending, sent := ledFrame,
          expectLen := 8 } ∧
      (Rests (doing .reset [.levelB .ledOff]) ∧ Idle (doing .reset [.levelB .ledOff]) ∧
        (doing .reset [.levelB .ledOff]).actions = .levelB .ledOff :: []) := by decide

/-- One of the states of `witness_inv_in_flight`. -/
theorem witness_TransactionEdges :
    Inv (inStage .validating (receiving ledFrame)) ∧ (inStage .validating (receiving ledFrame)).resetInput = false ∧
      (inStage .validating (receiving ledFrame)).txn.map Txn.stage = some .validating :=
  ⟨witness_inv_in_flight.2.2.2.2.1, by decide, by decide⟩

theorem witness_ReadGpioReturnsBytesFiveAndSix :
    Idle (answering gpioResponse) ∧ Rests (answering gpioResponse) ∧
      9 ≤ (answering gpioResponse).stream.next.inTime.length ∧
      decodeAndValidate ((answering gpioResponse).stream.next.inTime.take 9) 0x03#8 = .ok [] :=
  ⟨by decide, by decide, by decide, rfl⟩

/-- A valid response, a valid frame of another opcode, and a corrupted one. -/
theorem witness_VersionReturnsAString :
    Idle (answering versionResponse) ∧ Rests (answering versionResponse) ∧
      24 ≤ (answering versionResponse).stream.next.inTime.length ∧
      decodeAndValidate ((answering versionResponse).stream.next.inTime.take 24) 0x00#8 =
        .ok ((versionResponse.drop 5).take 17) ∧
      decodeAndValidate (encodeFrame 0x04#8 (List.replicate 17 0x00#8)) 0x00#8 = .error .opcodeMismatch ∧
      decodeAndValidate (List.replicate 24 0x00#8) 0x00#8 = .error .checksumMismatch :=
  ⟨by decide, by decide, by decide, by decide +kernel, by decide +kernel, by decide +kernel⟩

/-- A response with `LEN_OK` = 1, and one of the same size that validates with length field 1 and `LEN_OK` = 0. -/
theorem witness_SpiTransferReturnsThePayload :
    Idle (answering spiResponse) ∧ Rests (answering spiResponse) ∧
      min [0x81#8, 0x55#8, 0x00#8, 0x00#8].length 1024 + 7 ≤ (answering spiResponse).stream.next.inTime.length ∧
      decodeAndValidate ((answering spiResponse).stream.next.inTime.take 11) 0x01#8 =
        .ok [0x00#8, 0x00#8, 0xAA#8, 0xBB#8] ∧
      lenFlag ((answering spiResponse).stream.next.inTime.take 11) = true ∧
      decodeAndValidate shortSpiResponse 0x01#8 = .ok [0x00#8] ∧ shortSpiResponse.length = 11 ∧
      lenFlag shortSpiResponse = false :=
  ⟨by decide, by decide, by decide, rfl, rfl, rfl, rfl, rfl⟩

/-- A response with two payload bytes, and one whose length field is 0. -/
theorem witness_ReadRegisterReturnsTheSecondByte :
    Idle (answering registerResponse) ∧ Rests (answering registerResponse) ∧
      9 ≤ (answering registerResponse).stream.next.inTime.length ∧
      decodeAndValidate ((answering registerResponse).stream.next.inTime.take 9) 0x01#8 = .ok [0x00#8, 0x12#8] ∧
      decodeAndValidate ((answering shortRegisterResponse).stream.next.inTime.take 9) 0x01#8 = .ok [] :=
  ⟨by decide, by decide, by decide, rfl, rfl⟩

/-- A payload of 65535 bytes, and the two pseudo rows. -/
theorem witness_SetLedIsTheExactEcho (b : Byte) :
    Idle State.reset ∧ Rests State.reset ∧ (bytes 65535 b).length ≤ 65535 ∧
      (Instr.ledOff = .led [0x00#8] ∨ (Instr.ledOff = .ledOn ∧ [0x00#8] = [0x01#8]) ∨
        (Instr.ledOff = .ledOff ∧ [0x00#8] = [0x00#8])) := by
  simp [Idle, Rests, State.reset]

theorem witness_StepRunsTheDecodedInstruction :
    (doing .reset [.issue (.op [0x0C#8])]).resetInput = false ∧ (doing .reset [.issue (.op [0x0C#8])]).txn = none ∧
      (doing .reset [.issue (.op [0x0C#8])]).actions = .issue (.op [0x0C#8]) :: [] ∧
      decodeRequest (.op [0x0C#8]) = .ok .rxEnd := by decide

theorem witness_StepIdlesOrRefuses :
    (State.reset.resetInput = false ∧ State.reset.txn = none ∧ State.reset.actions = []) ∧
      ((doing .reset [.issue (.op [0x06#8])]).actions = .issue (.op [0x06#8]) :: [] ∧
        decodeRequest (.op [0x06#8]) = .error (.reservedOperation 0x6#4)) ∧
      0xF#4 ∈ [0x6#4, 0x7#4, 0xD#4, 0xE#4, 0xF#4] := by decide

theorem witness_ErrorPropagation : ErrorKind.timeout ≠ .payloadTooLarge := by decide

/-- The longest operand of each kind. -/
theorem witness_DecodeOfEncode (b : Byte) :
    (Instr.spiTransfer (bytes 65535 b)).WellFormed ∧
      (Instr.decode 0x00#8 (bytes 65542 b)).WellFormed ∧ Instr.readGpio.WellFormed := by
  simp [Instr.WellFormed, Instr.wf]

/-- An operation, a frame with another sync and length field, and a header of four bytes. -/
theorem witness_EncodeOfDecode :
    decodeRequest (.op [0x0A#8, 0x03#8]) = .ok (.rxStart 0x03#8) ∧
      decodeRequest (.frame [0x12#8, 0x34#8, 0x02#8, 0xFF#8, 0xFF#8, 0x01#8]) = .ok (.led [0x01#8]) ∧
      [0xAB#8, 0xCD#8, 0x00#8, 0x00#8].length < 5 := by decide

/-- The first opcode byte without a frame. -/
theorem witness_RequestSamples : 4 ≤ (0x04#8 : Byte).toNat := by decide

theorem witness_InvKeptByEveryStep :
    Inv (sendingAt 5 0xB2DD#16) ∧ after (step (sendingAt 5 0xB2DD#16)) (fun _ => true) = true ∧
      after (step (doing (sendingAt 5 0xB2DD#16) [.issue (.op [0x09#8])])) (fun t => t.txIdx == 6#17) = true ∧
      Inv (inStage .sending (sendingAt 5 0xB2DD#16)) ∧
      after (step (inStage .sending (sendingAt 5 0xB2DD#16))) (fun t => t.txIdx == 6#17) = true :=
  ⟨witness_inv_sending, by decide, by decide, witness_inv_in_flight.2.1, by decide⟩

theorem witness_RefusedExactlyAsListed : Inv (sendingAt 5 0xB2DD#16) := witness_inv_sending

theorem witness_SendingAcceptsOnlyTxStep :
    (sendingAt 5 0xB2DD#16).txBusy = true ∧ (sendingAt 5 0xB2DD#16).rxBusy = false ∧ Instr.rxAbort ≠ .txStep := by
  decide

theorem witness_ReceivingAcceptsOnlyItsContinuation :
    (receiving ledFrame).rxBusy = true ∧ (receiving ledFrame).txBusy = false ∧ (∀ b, Instr.txStep ≠ .rxByte b) ∧
      Instr.txStep ≠ .rxEnd ∧ Instr.txStep ≠ .rxAbort := by
  refine ⟨rfl, rfl, ?_, ?_, ?_⟩ <;> simp

end Sys2Proof.Tests
end

section
/-! SUPPORT. The family of the block's state: what its buffers, views and registers answer, and the invariant of the
block and of a transaction in flight, kept by every operation, by every edge of a transaction, and so by every step. -/

namespace Sys2Proof.Machine

/-- `RXBUF` holds the `RX_N` bytes of `buf` and nothing else (R39). -/
abbrev HoldsBuffer (s : State) (buf : List Byte) : Prop :=
  s.rxbuf = Mem.ofBytes 0 buf ∧ s.rxN.toNat = buf.length

/-! ### Field positions of a buffer -/

theorem getElem?_eq_byteAt {buf : List Byte} {i : Nat} (h : i < buf.length) : buf[i]? = some (byteAt buf i) := by
  simp [byteAt, h]

/-! ### Reads of the buffers -/

/-- Reading the defined part of a buffer reads its bytes, and past its end nothing. -/
theorem read_ofBytes_below (bs : List Byte) (i : Nat) :
    (if i < bs.length then (Mem.ofBytes 0 bs).read i else none) = bs[i]? := by
  split
  · exact Mem.read_ofBytes_zero i bs
  · rename_i hi
    exact (List.getElem?_eq_none (Nat.not_lt.mp hi)).symm

theorem readRxbuf_of_holds {s : State} {buf : List Byte} (h : HoldsBuffer s buf) (i : Nat) :
    readRxbuf s i = buf[i]? := by
  rw [readRxbuf, h.1, h.2, read_ofBytes_below]

theorem readTxbuf_of_holds {s : State} {p : List Byte} (hbuf : s.txbuf = Mem.ofBytes 0 p)
    (hlen : s.txLen.toNat = p.length) (i : Nat) : readTxbuf s i = p[i]? := by
  rw [readTxbuf, hbuf, hlen, read_ofBytes_below]

theorem readRxWord_of_holds {s : State} {buf : List Byte} (h : HoldsBuffer s buf) {i : Nat}
    (hi : i + 1 < buf.length) : readRxWord s i = some (be16 (byteAt buf i) (byteAt buf (i + 1))) := by
  simp only [readRxWord, readRxbuf_of_holds h, getElem?_eq_byteAt hi, getElem?_eq_byteAt (Nat.lt_of_succ_lt hi)]

/-! ### The views (R30) -/

theorem rxSyncView_of_holds {s : State} {buf : List Byte} (h : HoldsBuffer s buf) :
    rxSyncView s = if 2 ≤ buf.length then some (be16 (byteAt buf 0) (byteAt buf 1)) else none := by
  rw [rxSyncView, h.2]
  split
  · exact readRxWord_of_holds h (by omega)
  · rfl

theorem rxOpcodeView_of_holds {s : State} {buf : List Byte} (h : HoldsBuffer s buf) :
    rxOpcodeView s = if 3 ≤ buf.length then some (byteAt buf 2) else none := by
  rw [rxOpcodeView, h.2]
  split
  · rw [readRxbuf_of_holds h, getElem?_eq_byteAt (by omega)]
  · rfl

theorem rxLenView_of_holds {s : State} {buf : List Byte} (h : HoldsBuffer s buf) :
    rxLenView s = if 5 ≤ buf.length then some (lengthField buf) else none := by
  rw [rxLenView, h.2]
  split
  · exact readRxWord_of_holds h (by omega)
  · rfl

theorem rxTrailer_of_holds {s : State} {buf : List Byte} (h : HoldsBuffer s buf) (hn : 2 ≤ buf.length) :
    rxTrailer s = some (trailer buf) := by
  rw [rxTrailer, h.2, readRxWord_of_holds h (by omega), trailer]
  congr 3
  omega

theorem rxCrcView_of_holds {s : State} {buf : List Byte} (h : HoldsBuffer s buf) :
    rxCrcView s = if s.rxBusy = false ∧ 7 ≤ buf.length then some (trailer buf) else none := by
  rw [rxCrcView, h.2]
  split
  · exact rxTrailer_of_holds h (by omega)
  · rfl

theorem rxSyncFlag_of_holds {s : State} {buf : List Byte} (h : HoldsBuffer s buf) :
    rxSyncFlag s = syncFlag buf := by
  rw [rxSyncFlag, syncFlag, h.2, readRxbuf_of_holds h, readRxbuf_of_holds h]
  by_cases hn : 2 ≤ buf.length
  · rw [getElem?_eq_byteAt (i := 0) (by omega), getElem?_eq_byteAt (i := 1) (by omega)]
    rfl
  · simp [hn]

/-! ### The invariant gives the buffers -/

theorem BlockInv.holdsBuffer {s : State} (h : BlockInv s) : HoldsBuffer s s.rxbuf.bytes :=
  ⟨Mem.eq_ofBytes_of_range _ _ h.rxbufDefined, (Mem.bytes_length_of_range _ _ h.rxbufDefined).symm⟩

theorem BlockInv.rxbuf_length {s : State} (h : BlockInv s) : s.rxbuf.bytes.length = s.rxN.toNat :=
  Mem.bytes_length_of_range _ _ h.rxbufDefined

theorem BlockInv.txbuf_length {s : State} (h : BlockInv s) : s.txbuf.bytes.length = s.txLen.toNat :=
  Mem.bytes_length_of_range _ _ h.txbufDefined

theorem BlockInv.readTxbuf_eq {s : State} (h : BlockInv s) (i : Nat) : readTxbuf s i = s.txbuf.bytes[i]? :=
  readTxbuf_of_holds (Mem.eq_ofBytes_of_range _ _ h.txbufDefined) h.txbuf_length.symm i

/-! ### The CRC of one byte more, truncation, lengths -/

theorem crcFold_append (seed : Word) (xs ys : List Byte) :
    crcFold seed (xs ++ ys) = crcFold (crcFold seed xs) ys := by
  induction xs generalizing seed with
  | nil => rfl
  | cons b xs ih => exact ih (crcUpdate seed b)

theorem crcCompute_concat (xs : List Byte) (b : Byte) :
    crcCompute (xs ++ [b]) = crcUpdate (crcCompute xs) b :=
  crcFold_append _ xs [b]

theorem length_truncate_le (opcode : Byte) (payload : List Byte) :
    (truncate opcode payload).length ≤ payload.length := by
  unfold truncate
  split
  · exact List.length_take_le' _ _
  · exact Nat.le_refl _

theorem length_truncate_spi (payload : List Byte) :
    (truncate Config.opSpiTransfer payload).length ≤ Config.spiMax := by
  unfold truncate
  split
  · exact List.length_take_le _ _
  · rename_i h
    exact Nat.not_lt.mp fun hlt => h ⟨rfl, hlt⟩

theorem toNat_txLen_of_framable {opcode : Byte} {payload : List Byte} (hp : payload.length ≤ 65535) :
    (BitVec.ofNat 16 (truncate opcode payload).length).toNat = (truncate opcode payload).length := by
  have := length_truncate_le opcode payload
  rw [BitVec.toNat_ofNat, Nat.mod_eq_of_lt (by omega)]

/-! ### The block of a state -/

/-- The block alone: the host's and the environment's fields at their reset values. `BlockInv` reads nothing else. -/
def State.block (s : State) : State :=
  { s with txout := [], stream := Stream.quiet, session := none, verdicts := [], results := [], actions := [],
           resetInput := false }

theorem blockInv_block {s : State} : BlockInv s.block ↔ BlockInv s :=
  ⟨fun h => { h with }, fun h => { h with }⟩

/-- The invariant of the block depends on the block alone. -/
theorem blockInv_congr {s t : State} (e : s.block = t.block) : BlockInv s ↔ BlockInv t := by
  rw [← blockInv_block, e, blockInv_block]

theorem reset_blockInv : BlockInv State.reset where
  exclusive := .inl rfl
  errLegal := by decide
  txbufDefined := rfl
  rxbufDefined := rfl
  rxBounded := by decide
  spiBounded _ := by decide
  idxBounded := by decide
  sendingInside h := nomatch h
  sendingCrc h := nomatch h
  receivingOpen h := nomatch h
  receivingCrc h := nomatch h
  noVerdict _ := ⟨rfl, rfl, rfl, rfl⟩
  noBuffer _ _ := rfl
  verdict h := nomatch h

/-! ### Operations of an idle block -/

/-- Idle, `CRC` may hold anything (R21). -/
theorem BlockInv.setCrc {s : State} (h : BlockInv s) (hi : s.busy = false) (v : Word) : BlockInv (setCrc s v) := by
  obtain ⟨htx, hrx⟩ := (State.busy_eq_false s).mp hi
  exact { h with
    sendingCrc := fun hb => absurd hb (by simp [htx])
    receivingCrc := fun hb => absurd hb (by simp [hrx]) }

/-! ### The framer's operations -/

section Framer
variable {s : State} {opcode : Byte} {payload : List Byte}

theorem spiBounded_truncate (hp : payload.length ≤ 65535) (ho : opcode = Config.opSpiTransfer) :
    (BitVec.ofNat 16 (truncate opcode payload).length).toNat ≤ Config.spiMax := by
  rw [toNat_txLen_of_framable hp, ho]
  exact length_truncate_spi payload

theorem BlockInv.sendWhole (h : BlockInv s) (hi : s.busy = false) (hp : payload.length ≤ 65535) :
    BlockInv (sendWhole s opcode payload) := by
  obtain ⟨-, hrx⟩ := (State.busy_eq_false s).mp hi
  have hlen := toNat_txLen_of_framable (opcode := opcode) hp
  have hidx :
      (BitVec.ofNat 17 ((truncate opcode payload).length + 7)).toNat = (truncate opcode payload).length + 7 := by
    have := length_truncate_le opcode payload
    rw [BitVec.toNat_ofNat, Nat.mod_eq_of_lt (by omega)]
  exact { h with
    exclusive := .inl rfl
    txbufDefined := by simp [hlen]
    spiBounded := spiBounded_truncate hp
    idxBounded := by simp only [sendWhole_txIdx, sendWhole_txLen, hidx, hlen, Nat.le_refl]
    sendingInside := nofun
    sendingCrc := nofun
    receivingCrc := fun hb => absurd hb (by simp [hrx]) }

theorem BlockInv.sendStart (h : BlockInv s) (hi : s.busy = false) (hp : payload.length ≤ 65535) :
    BlockInv (sendStart s opcode payload) := by
  obtain ⟨-, hrx⟩ := (State.busy_eq_false s).mp hi
  exact { h with
    exclusive := .inr hrx
    txbufDefined := by simp [toNat_txLen_of_framable hp]
    spiBounded := spiBounded_truncate hp
    idxBounded := by simp
    sendingInside := fun _ => by simp
    sendingCrc := fun _ => rfl
    receivingCrc := fun hb => absurd hb (by simp [hrx]) }

/-- The CRC region of the frame being sent has three bytes more than the payload (R140). -/
theorem BlockInv.length_sentCore (h : BlockInv s) : (sentCore s).length = s.txLen.toNat + 3 := by
  simp [sentCore, frameCore, h.txbuf_length]

/-- `CRC` folds the bytes from offset 2 to the trailer (R143). -/
theorem txPhase_folds_iff {i len : Nat} (hi : i < len + 7) :
    (txPhase i len).folds = true ↔ 2 ≤ i ∧ i < len + 5 := by
  unfold txPhase
  split_ifs <;> simp [TxPhase.folds] <;> omega

theorem txPhase_payload {i len : Nat} (hlo : 5 ≤ i) (hhi : i < len + 5) : txPhase i len = .payload := by
  simp (disch := omega) only [txPhase, if_neg]

/-- The bytes from offset 2 to the trailer are those of the CRC region (R143). -/
theorem BlockInv.txByte_eq_sentCore (h : BlockInv s) (hlo : 2 ≤ s.txIdx.toNat)
    (hhi : s.txIdx.toNat < s.txLen.toNat + 5) : txByte s = (sentCore s)[s.txIdx.toNat - 2]? := by
  have hlen : BitVec.ofNat 16 s.txbuf.bytes.length = s.txLen := by
    rw [h.txbuf_length, BitVec.ofNat_toNat, BitVec.setWidth_eq]
  obtain ⟨k, hk⟩ := Nat.exists_eq_add_of_le' hlo
  have hread := h.readTxbuf_eq (k + 2 - 5)
  rw [sentCore, frameCore, hlen, txByte, hk]
  match k with
  | 0 | 1 | 2 => rfl
  | k + 3 =>
    rw [txPhase_payload (by omega) (by omega)]
    exact hread

theorem sendByte_txIdx_toNat (h : s.txIdx.toNat < s.txLen.toNat + 7) (b : Byte) :
    (sendByte s b).txIdx.toNat = s.txIdx.toNat + 1 := by
  have := s.txLen.isLt
  rw [sendByte_txIdx, BitVec.toNat_add, BitVec.toNat_ofNat]
  omega

/-- `CRC` after one byte more of the frame is that of the bytes emitted so far (R143, R145). -/
theorem BlockInv.sendByte_crc_eq (h : BlockInv s) (hb : s.txBusy = true) {b : Byte} (hbyte : txByte s = some b) :
    (sendByte s b).crc = crcCompute ((sentCore s).take (s.txIdx.toNat + 1 - 2)) := by
  have hin := h.sendingInside hb
  have hcrc := h.sendingCrc hb
  have hfolds := txPhase_folds_iff hin
  rw [sendByte_crc]
  by_cases hf : 2 ≤ s.txIdx.toNat ∧ s.txIdx.toNat < s.txLen.toNat + 5
  · obtain ⟨hlo, hhi⟩ := hf
    have hnext : (sentCore s)[s.txIdx.toNat - 2]? = some b := by rw [← h.txByte_eq_sentCore hlo hhi, hbyte]
    rw [if_pos (hfolds.mpr ⟨hlo, hhi⟩), hcrc, Nat.sub_add_comm hlo, List.take_add_one, hnext]
    exact (crcCompute_concat _ b).symm
  · rw [if_neg (mt hfolds.mp hf), hcrc]
    rcases Nat.lt_or_ge s.txIdx.toNat 2 with hlo | hlo
    · congr 2
      omega
    · have hlen := h.length_sentCore
      rw [List.take_of_length_le (by omega), List.take_of_length_le (by omega)]

theorem BlockInv.sendByte (h : BlockInv s) (hb : s.txBusy = true) {b : Byte} (hbyte : txByte s = some b) :
    BlockInv (sendByte s b) := by
  have hin := h.sendingInside hb
  have hidx := sendByte_txIdx_toNat hin b
  have hrx : s.rxBusy = false := h.exclusive.resolve_left (by simp [hb])
  exact { h with
    exclusive := .inr hrx
    idxBounded := by
      rw [hidx, sendByte_txLen]
      exact hin
    sendingInside := fun hb' => by
      rw [hidx, sendByte_txLen]
      refine Nat.lt_of_le_of_ne hin fun hend => ?_
      simp [hend] at hb'
    sendingCrc := fun _ => by
      rw [hidx]
      exact h.sendByte_crc_eq hb hbyte
    receivingCrc := fun hb' => absurd hb' (by simp [hrx]) }

end Framer

/-! ### The deframer's function -/

/-- A decode reports an `ERR` of at most 3 (R246). -/
theorem verdictErr_decode_le (buf : List Byte) (expect : Byte) :
    (verdictErr (verdictOf (decodeAndValidate buf expect))).toNat ≤ 3 := by
  unfold decodeAndValidate firstFailure
  split_ifs <;> simp [verdictOf, verdictErr, ErrorKind.code]

/-- The payload delivered is as long as the length field says, and never longer than the body (R167). -/
theorem length_deliveredPayload {buf : List Byte} (hn : 7 ≤ buf.length) :
    (deliveredPayload buf).length = min (lengthField buf).toNat (buf.length - 7) := by
  simp only [deliveredPayload, slice, Config.minFrame, List.length_take, List.length_drop]
  omega

/-- The CRC region of a buffer with one byte more ends two bytes before its end (R169). -/
theorem crcRegion_concat {buf : List Byte} (hn : 4 ≤ buf.length) (b : Byte) :
    crcRegion (buf ++ [b]) = crcRegion buf ++ [byteAt buf (buf.length - 2)] := by
  have hidx : 2 + (buf.length - 2 - 2) = buf.length - 2 := by omega
  have hlen : (buf ++ [b]).length - 2 - 2 = buf.length - 2 - 2 + 1 := by
    rw [List.length_append, List.length_singleton]
    omega
  have hdrop : (buf ++ [b]).drop 2 = buf.drop 2 ++ [b] := List.drop_append_of_le_length (by omega)
  have hget : (buf.drop 2)[buf.length - 2 - 2]? = some (byteAt buf (buf.length - 2)) := by
    rw [List.getElem?_drop, hidx, getElem?_eq_byteAt (by omega)]
  rw [crcRegion, crcRegion, slice, slice, hlen, hdrop, List.take_append_of_le_length (by simp; omega),
    List.take_add_one, hget]
  rfl

/-- `CRC` of a received buffer with one byte more folds the byte two places back from the fifth byte on (R169). -/
theorem receivedCrc_concat (buf : List Byte) (b : Byte) :
    receivedCrc (buf ++ [b]) =
      if 4 ≤ buf.length then crcUpdate (receivedCrc buf) (byteAt buf (buf.length - 2)) else receivedCrc buf := by
  by_cases hn : 4 ≤ buf.length
  · have hn' : 4 ≤ (buf ++ [b]).length := by simp; omega
    rw [if_pos hn, receivedCrc, receivedCrc, if_pos hn', if_pos hn, crcRegion_concat hn, crcCompute_concat]
  · rw [if_neg hn, receivedCrc, receivedCrc, if_neg hn]
    split
    · rename_i hfour
      have hthree : buf.length = 3 := by
        rw [List.length_append, List.length_singleton] at hfour
        omega
      simp [crcRegion, slice, hthree, crcCompute, crcFold]
    · rfl

/-! ### The deframer's operations -/

theorem rxPhase_folds_iff (i : Nat) : (rxPhase i).foldsTwoBack = true ↔ 4 ≤ i := by
  unfold rxPhase
  split_ifs <;> simp [RxPhase.foldsTwoBack] <;> omega

/-- What `RX_BYTE` makes of `CRC` (R171). -/
theorem crcTwoBack_eq_some {s : State} {c : Word} :
    crcTwoBack s = some c ↔
      (s.rxN.toNat < 4 ∧ c = s.crc) ∨
        (4 ≤ s.rxN.toNat ∧ ∃ b, readRxbuf s (s.rxN.toNat - 2) = some b ∧ c = crcUpdate s.crc b) := by
  by_cases hn : 4 ≤ s.rxN.toNat
  · cases hr : readRxbuf s (s.rxN.toNat - 2) <;>
      simp [crcTwoBack, (rxPhase_folds_iff _).mpr hn, hr, hn, Nat.not_lt.mpr hn, eq_comm]
  · simp [crcTwoBack, mt (rxPhase_folds_iff _).mp hn, hn, Nat.not_le.mp hn, eq_comm]

theorem receiveByte_rxN_toNat {s : State} (hn : s.rxN.toNat < 65542) (b : Byte) (c : Word) :
    (receiveByte s b c).rxN.toNat = s.rxN.toNat + 1 := by
  rw [receiveByte_rxN, BitVec.toNat_add, BitVec.toNat_ofNat]
  omega

/-- `RXBUF` after `RX_BYTE` holds one byte more (R171). -/
theorem HoldsBuffer.receiveByte {s : State} {buf : List Byte} (h : HoldsBuffer s buf) (hn : s.rxN.toNat < 65542)
    (b : Byte) (c : Word) : HoldsBuffer (receiveByte s b c) (buf ++ [b]) := by
  obtain ⟨hbuf, hlen⟩ := h
  refine ⟨?_, ?_⟩
  · rw [receiveByte_rxbuf, hbuf, hlen]
    simpa using Mem.write_ofBytes_end 0 buf b
  · rw [receiveByte_rxN_toNat hn, hlen, List.length_append, List.length_singleton]

theorem HoldsBuffer.bytes_eq {s : State} {buf : List Byte} (h : HoldsBuffer s buf) : s.rxbuf.bytes = buf := by
  rw [h.1, Mem.bytes_ofBytes]

theorem HoldsBuffer.rxbufDefined {s : State} {buf : List Byte} (h : HoldsBuffer s buf) :
    s.rxbuf.map Prod.fst = List.range s.rxN.toNat := by
  rw [h.1, h.2, Mem.keys_ofBytes_zero]

theorem BlockInv.clearVerdict_idle {s : State} (h : BlockInv s) (htx : s.txBusy = false) :
    BlockInv { clearVerdict s with rxBusy := false } :=
  { h with
    exclusive := .inr rfl
    errLegal := by simp
    rxbufDefined := rfl
    rxBounded := by simp
    sendingCrc := fun hb => absurd hb (by simp [htx])
    receivingOpen := nofun
    receivingCrc := nofun
    noVerdict := fun _ => ⟨rfl, rfl, rfl, rfl⟩
    noBuffer := fun _ _ => rfl
    verdict := nofun }

theorem BlockInv.receiveStart {s : State} (h : BlockInv s) (hi : s.busy = false) (expect : Byte) :
    BlockInv (receiveStart s expect) := by
  obtain ⟨htx, -⟩ := (State.busy_eq_false s).mp hi
  exact { h with
    exclusive := .inl htx
    errLegal := by simp
    rxbufDefined := rfl
    rxBounded := by simp
    sendingCrc := fun hb => absurd hb (by simp [htx])
    receivingOpen := fun _ => rfl
    receivingCrc := fun _ => rfl
    noVerdict := fun _ => ⟨rfl, rfl, rfl, rfl⟩
    noBuffer := nofun
    verdict := nofun }

theorem BlockInv.receiveByte {s : State} (h : BlockInv s) (hb : s.rxBusy = true) (hn : s.rxN.toNat < 65542)
    (b : Byte) {c : Word} (hc : crcTwoBack s = some c) : BlockInv (receiveByte s b c) := by
  have htx : s.txBusy = false := h.exclusive.resolve_right (by simp [hb])
  have hholds := h.holdsBuffer.receiveByte hn b c
  have hlen := h.rxbuf_length
  have hcrc : c = receivedCrc (s.rxbuf.bytes ++ [b]) := by
    rw [receivedCrc_concat, hlen, ← h.receivingCrc hb]
    rcases crcTwoBack_eq_some.mp hc with ⟨hlt, hkeep⟩ | ⟨hge, v, hread, hfold⟩
    · rw [if_neg (Nat.not_le.mpr hlt), hkeep]
    · rw [readRxbuf_of_holds h.holdsBuffer, getElem?_eq_byteAt (by omega), Option.some.injEq] at hread
      rw [if_pos hge, hfold, hread]
  exact { h with
    rxbufDefined := hholds.rxbufDefined
    rxBounded := by
      rw [receiveByte_rxN_toNat hn]
      exact hn
    sendingCrc := fun hb' => absurd hb' (by simp [htx])
    receivingCrc := fun _ => by rw [hholds.bytes_eq, receiveByte_crc, hcrc]
    noBuffer := fun hb' => absurd hb' (by simp [hb])
    verdict := fun hd => absurd hd (by simp [h.receivingOpen hb]) }

/-- The end of a decode keeps the invariant, whatever the buffer (R168). -/
theorem BlockInv.reportDecoded {s : State} (h : BlockInv s) (htx : s.txBusy = false) (expect : Byte)
    {buf : List Byte} (hlen : buf.length ≤ 65542) :
    BlockInv (reportVerdict (loadBuffer s expect buf) (syncFlag buf) (lenFlag buf)
      (verdictOf (decodeAndValidate buf expect))) := by
  have hN : (BitVec.ofNat 17 buf.length).toNat = buf.length := by
    rw [BitVec.toNat_ofNat, Nat.mod_eq_of_lt (by omega)]
  exact { h with
    exclusive := .inl htx
    errLegal := verdictErr_decode_le buf expect
    rxbufDefined := by simp [hN]
    rxBounded := by simpa [hN] using hlen
    sendingCrc := fun hb => absurd hb (by simp [htx])
    receivingOpen := nofun
    receivingCrc := nofun
    noVerdict := nofun
    noBuffer := nofun
    verdict := fun _ => by simp }

/-- A received buffer is where `DECODE` would put it (R176). -/
theorem BlockInv.loadBuffer_self {s : State} (h : BlockInv s) (hb : s.rxBusy = true) :
    loadBuffer s s.rxExpect s.rxbuf.bytes = s := by
  have hN : BitVec.ofNat 17 s.rxbuf.bytes.length = s.rxN := by
    rw [h.rxbuf_length, BitVec.ofNat_toNat, BitVec.setWidth_eq]
  unfold loadBuffer
  rw [← h.holdsBuffer.1, hN, ← h.receivingCrc hb]

/-- The verdict on the fields in `RXBUF` is that of the function on the buffer (R172, R176). -/
theorem BlockInv.endVerdict_eq {s : State} (h : BlockInv s) (hb : s.rxBusy = true) (hn : 7 ≤ s.rxbuf.bytes.length) :
    endVerdict s (lengthField s.rxbuf.bytes) (trailer s.rxbuf.bytes) (byteAt s.rxbuf.bytes 2) =
      verdictOf (decodeAndValidate s.rxbuf.bytes s.rxExpect) := by
  have hcrc : s.crc = crcCompute (crcRegion s.rxbuf.bytes) := by
    rw [h.receivingCrc hb, receivedCrc, if_pos (by omega)]
  unfold endVerdict decodeAndValidate firstFailure
  rw [← hcrc, ← h.rxbuf_length, if_neg (show ¬ s.rxbuf.bytes.length < Config.minFrame from Nat.not_lt.mpr hn)]
  split_ifs
  · rfl
  · rfl
  · simp [verdictOf, length_deliveredPayload hn]

/-- `RX_END` ends in the state in which `DECODE` of the received buffer ends (R176). -/
theorem BlockInv.rxEndOp_eq {s : State} (h : BlockInv s) (hb : s.rxBusy = true) :
    rxEndOp s = .next (reportVerdict (loadBuffer s s.rxExpect s.rxbuf.bytes) (syncFlag s.rxbuf.bytes)
      (lenFlag s.rxbuf.bytes) (verdictOf (decodeAndValidate s.rxbuf.bytes s.rxExpect))) := by
  have hholds := h.holdsBuffer
  have hlen := h.rxbuf_length
  rw [h.loadBuffer_self hb, ← rxSyncFlag_of_holds hholds]
  by_cases hn : 7 ≤ s.rxbuf.bytes.length
  · have hl : rxLenView s = some (lengthField s.rxbuf.bytes) := by
      rw [rxLenView_of_holds hholds, if_pos (by omega)]
    have ho : rxOpcodeView s = some (byteAt s.rxbuf.bytes 2) := by
      rw [rxOpcodeView_of_holds hholds, if_pos (by omega)]
    have hflag : lenFlag s.rxbuf.bytes = ((lengthField s.rxbuf.bytes).toNat == s.rxN.toNat - 7) := by
      simp [lenFlag, hn, ← hlen]
    rw [rxEndOp_long hb (hlen ▸ hn) hl (rxTrailer_of_holds hholds (by omega)) ho, h.endVerdict_eq hb hn, hflag]
  · have hflag : lenFlag s.rxbuf.bytes = false := by simp [lenFlag, hn]
    have hverdict : decodeAndValidate s.rxbuf.bytes s.rxExpect = .error .frameTooShort := by
      simp [decodeAndValidate, firstFailure, Nat.not_le.mp hn]
    rw [rxEndOp_short hb (hlen ▸ Nat.not_le.mp hn), hflag, hverdict]
    rfl

theorem BlockInv.rxEndOp {s t : State} (h : BlockInv s) (ht : rxEndOp s = .next t) : BlockInv t := by
  obtain ⟨hb, -⟩ := rxEndOp_next.mp ht
  have htx : s.txBusy = false := h.exclusive.resolve_right (by simp [hb])
  rw [h.rxEndOp_eq hb, Host.Outcome.next.injEq] at ht
  exact ht ▸ h.reportDecoded htx _ (h.rxbuf_length.symm ▸ h.rxBounded)

/-! ### The block's operations keep its invariant -/

theorem BlockInv.encodeOp {opcode : Byte} {payload : List Byte} {s t : State} (h : BlockInv s)
    (ht : encodeOp opcode payload s = .next t) : BlockInv t := by
  obtain ⟨hi, hp, rfl⟩ := encodeOp_next.mp ht
  exact h.sendWhole hi hp

theorem BlockInv.startOp {opcode : Byte} {payload : List Byte} {s t : State} (h : BlockInv s)
    (ht : startOp opcode payload s = .next t) : BlockInv t := by
  obtain ⟨hi, hp, rfl⟩ := startOp_next.mp ht
  exact h.sendStart hi hp

theorem BlockInv.stepOp {s t : State} (h : BlockInv s) (ht : stepOp s = .next t) : BlockInv t := by
  obtain ⟨hb, b, hbyte, rfl⟩ := stepOp_next.mp ht
  exact h.sendByte hb hbyte

theorem BlockInv.decodeOp {expect : Byte} {buf : List Byte} {s t : State} (h : BlockInv s)
    (ht : decodeOp expect buf s = .next t) : BlockInv t := by
  obtain ⟨hi, hlen, rfl⟩ := decodeOp_next.mp ht
  exact h.reportDecoded ((State.busy_eq_false s).mp hi).1 expect hlen

theorem BlockInv.rxStartOp {expect : Byte} {s t : State} (h : BlockInv s)
    (ht : rxStartOp expect s = .next t) : BlockInv t := by
  obtain ⟨hi, rfl⟩ := rxStartOp_next.mp ht
  exact h.receiveStart hi expect

theorem BlockInv.rxByteOp {b : Byte} {s t : State} (h : BlockInv s) (ht : rxByteOp b s = .next t) :
    BlockInv t := by
  obtain ⟨hb, hn, c, hc, rfl⟩ := rxByteOp_next.mp ht
  exact h.receiveByte hb hn b hc

theorem BlockInv.abortOp {s t : State} (h : BlockInv s) (ht : abortOp s = .next t) : BlockInv t := by
  obtain ⟨htx, rfl⟩ := abortOp_next.mp ht
  exact h.clearVerdict_idle htx

/-! ### A transaction at level A keeps it: its edges leave the block as it is -/

theorem BlockInv.of_block_eq {s t : State} (h : BlockInv s) (e : t.block = s.block) : BlockInv t :=
  (blockInv_congr e).mpr h

theorem BlockInv.txnBegin {c : Command} {opcode : Byte} {payload : List Byte} {s t : State} (h : BlockInv s)
    (ht : txnBegin c opcode payload s = .next t) : BlockInv t := by
  obtain ⟨-, -, -, rfl⟩ := txnBegin_next.mp ht
  exact h.of_block_eq rfl

theorem BlockInv.txnTimeout {x : Txn} {s t : State} (h : BlockInv s) (ht : txnTimeout x s = .next t) :
    BlockInv t := by
  obtain ⟨htx, rfl⟩ := txnTimeout_next.mp ht
  exact (h.clearVerdict_idle htx).of_block_eq rfl

theorem txnConclude_block {x : Txn} {s t : State} (ht : txnConclude x s = .next t) : t.block = s.block := by
  rcases txnConclude_next.mp ht with ⟨k, -, rfl⟩ | ⟨-, r, -, rfl⟩ <;> rfl

theorem BlockInv.txnConclude {x : Txn} {s t : State} (h : BlockInv s) (ht : txnConclude x s = .next t) :
    BlockInv t :=
  h.of_block_eq (txnConclude_block ht)

theorem BlockInv.txnReceive {x : Txn} {s t : State} (h : BlockInv s) (ht : txnReceive x s = .next t) :
    BlockInv t := by
  rcases txnReceive_next.mp ht with ⟨-, ht⟩ | ⟨-, v, hv, ht⟩
  · have hread : BlockInv (readClose (readTake x.expectLen s)) := h.of_block_eq rfl
    exact hread.txnTimeout ht
  · have hread : BlockInv (txnValidate x (readClose (readTake x.expectLen s))) := h.of_block_eq rfl
    exact (hread.decodeOp hv).txnConclude ht

theorem BlockInv.txnSend {x : Txn} {s t : State} (h : BlockInv s) (ht : txnSend x s = .next t) : BlockInv t := by
  obtain ⟨hi, hp, ht⟩ := txnSend_next.mp ht
  have hsent : BlockInv (awaitResponse x (Machine.sendWhole s x.expectOp x.payload)) :=
    (h.sendWhole hi hp).of_block_eq rfl
  exact hsent.txnReceive ht

theorem BlockInv.transact {c : Command} {opcode : Byte} {payload : List Byte} {s t : State} (h : BlockInv s)
    (ht : transact c opcode payload s = .next t) : BlockInv t := by
  obtain ⟨u, hu, v, hv, rfl⟩ := transact_next.mp ht
  have hdrained : BlockInv (txnDrain (newTxn c opcode payload) u) := (h.txnBegin hu).of_block_eq rfl
  exact (hdrained.txnSend hv).of_block_eq rfl

/-! ### Every instruction -/

theorem BlockInv.of_whenIdle_setCrc {v : Word} {s t : State} (h : BlockInv s)
    (ht : whenIdle s (.next (Machine.setCrc s v)) = .next t) : BlockInv t := by
  obtain ⟨hi, he⟩ := whenIdle_next.mp ht
  obtain rfl := Host.Outcome.next.inj he
  exact h.setCrc hi v

/-- Every instruction keeps the invariant of the block. -/
theorem BlockInv.exec {i : Instr} {s t : State} (h : BlockInv s) (ht : exec i s = .next t) : BlockInv t := by
  cases i with
  | version | spiTransfer payload | led payload | readGpio | readRegister r | ledOn | ledOff => exact h.transact ht
  | crcSeed v | crcUpdate b | crcCompute buf | crcInit => exact h.of_whenIdle_setCrc ht
  | encode opcode payload => exact h.encodeOp ht
  | decode expect buf => exact h.decodeOp ht
  | rxAbort => exact h.abortOp ht
  | txStart opcode payload => exact h.startOp ht
  | txStep => exact h.stepOp ht
  | rxStart expect => exact h.rxStartOp ht
  | rxByte b => exact h.rxByteOp ht
  | rxEnd => exact h.rxEndOp ht

theorem whenIdle_setCrc_session {v : Word} {s t : State}
    (ht : whenIdle s (.next (setCrc s v)) = .next t) : t.session = s.session := by
  obtain ⟨-, he⟩ := whenIdle_next.mp ht
  exact Host.Outcome.next.inj he ▸ rfl

/-- `RX_END` ends the reception with a verdict and leaves the sender and the Session alone (R172). -/
theorem rxEndOp_frame {s t : State} (ht : rxEndOp s = .next t) :
    t.txBusy = s.txBusy ∧ t.rxBusy = false ∧ t.rxDone = true ∧ t.session = s.session := by
  obtain ⟨-, ⟨-, rfl⟩ | ⟨-, len, rxCrc, opcode, -, -, -, rfl⟩⟩ := rxEndOp_next.mp ht <;>
    exact ⟨rfl, rfl, rfl, rfl⟩

/-- A level A transaction leaves the Session `Idle` (R211, R227). -/
theorem transact_txn {c : Command} {opcode : Byte} {payload : List Byte} {s t : State}
    (ht : transact c opcode payload s = .next t) : t.txn = none := by
  obtain ⟨u, -, v, -, rfl⟩ := transact_next.mp ht
  rfl

theorem txn_eq_none_of_session {s t : State} (e : t.session = s.session) (hn : s.txn = none) : t.txn = none := by
  rw [State.txn, e]
  exact hn

/-- No instruction leaves a transaction in flight: an operation does not touch the Session, a frame ends its own. -/
theorem exec_txn_none {i : Instr} {s t : State} (hn : s.txn = none) (ht : exec i s = .next t) : t.txn = none := by
  cases i with
  | version | spiTransfer payload | led payload | readGpio | readRegister r | ledOn | ledOff => exact transact_txn ht
  | crcSeed v | crcUpdate b | crcCompute buf | crcInit =>
    exact txn_eq_none_of_session (whenIdle_setCrc_session ht) hn
  | encode opcode payload =>
    obtain ⟨-, -, rfl⟩ := encodeOp_next.mp ht
    exact hn
  | decode expect buf =>
    obtain ⟨-, -, rfl⟩ := decodeOp_next.mp ht
    exact hn
  | rxAbort =>
    obtain ⟨-, rfl⟩ := abortOp_next.mp ht
    exact hn
  | txStart opcode payload =>
    obtain ⟨-, -, rfl⟩ := startOp_next.mp ht
    exact hn
  | txStep =>
    obtain ⟨-, b, -, rfl⟩ := stepOp_next.mp ht
    exact hn
  | rxStart expect =>
    obtain ⟨-, rfl⟩ := rxStartOp_next.mp ht
    exact hn
  | rxByte b =>
    obtain ⟨-, -, c, -, rfl⟩ := rxByteOp_next.mp ht
    exact hn
  | rxEnd => exact txn_eq_none_of_session (rxEndOp_frame ht).2.2.2 hn

/-! ### The invariant of a transaction, state by state (R212) -/

section TxnInv
variable {x : Txn} {s : State}

theorem txnInv_draining (hst : x.stage = .draining) : TxnInv x s ↔ Idle s ∧ payloadInRange x.payload := by
  rw [TxnInv, hst]

theorem txnInv_sending (hst : x.stage = .sending) :
    TxnInv x s ↔ s.rxBusy = false ∧ payloadInRange x.payload := by
  rw [TxnInv, hst]

theorem txnInv_awaitingResponse (hst : x.stage = .awaitingResponse) :
    TxnInv x s ↔ s.txBusy = false ∧ 7 ≤ x.expectLen ∧ x.expectLen ≤ Config.rxMax ∧
      (s.rxBusy = true → s.rxN.toNat ≤ x.expectLen ∧ s.rxExpect = x.expectOp) := by
  rw [TxnInv, hst]

theorem txnInv_validating (hst : x.stage = .validating) :
    TxnInv x s ↔ s.txBusy = false ∧ s.rxBusy = true ∧ 7 ≤ x.expectLen ∧ s.rxN.toNat = x.expectLen ∧
      s.rxExpect = x.expectOp := by
  rw [TxnInv, hst]

theorem txnInv_complete (hst : x.stage = .complete) : TxnInv x s ↔ Idle s ∧ s.rxDone = true ∧ s.err = 0#3 := by
  rw [TxnInv, hst]

theorem txnInv_failed (hst : x.stage = .failed) :
    TxnInv x s ↔ Idle s ∧ (s.rxDone = true → s.err ≠ 0#3) := by
  rw [TxnInv, hst]

theorem Inv.of_txn_none (h : BlockInv s) (hn : s.txn = none) : Inv s :=
  { h with inFlight := fun _ hx => nomatch hn.symm.trans hx }

theorem Inv.of_txn_some (h : BlockInv s) (hx : s.txn = some x) (hi : TxnInv x s) : Inv s :=
  { h with inFlight := fun _ hy => Option.some.inj (hx.symm.trans hy) ▸ hi }

end TxnInv

/-! ### Every edge of a level B transaction -/

/-- The expected length is at least that of the smallest frame and fits `RXBUF` (R196). -/
theorem Command.expectLen_bounds (c : Command) {n : Nat} (hn : n ≤ 65535) :
    7 ≤ c.expectLen n ∧ c.expectLen n ≤ Config.rxMax := by
  cases c <;> simp [Command.expectLen] <;> omega

/-- An `ERR` that a decode reports is 0 exactly when it names no error kind (R246). -/
theorem ErrorKind.ofCode_eq_none_iff : ∀ {c : ErrCode}, c.toNat ≤ 3 → (ErrorKind.ofCode c = none ↔ c = 0#3) := by
  decide

section Edges
variable {x : Txn} {s t : State}

theorem Inv.txnDrain (h : Inv s) (hx : s.txn = some x) (hst : x.stage = .draining) : Inv (txnDrain x s) := by
  obtain ⟨⟨-, hrx⟩, hp⟩ := (txnInv_draining hst).mp (h.inFlight x hx)
  exact .of_txn_some (h.of_block_eq rfl) rfl ((txnInv_sending rfl).mpr ⟨hrx, hp⟩)

theorem Inv.awaitResponse (h : BlockInv s) (htx : s.txBusy = false) (hrx : s.rxBusy = false) :
    Inv (awaitResponse x s) := by
  obtain ⟨hmin, hmax⟩ := x.command.expectLen_bounds (Nat.le_of_lt_succ s.txLen.isLt)
  refine .of_txn_some (h.of_block_eq rfl) rfl ((txnInv_awaitingResponse rfl).mpr ⟨htx, hmin, hmax, ?_⟩)
  exact fun hb => absurd hb (by simp [hrx])

theorem Inv.sendStep (h : Inv s) (hx : s.txn = some x) (hst : x.stage = .sending)
    (ht : sendStep x s = .next t) : Inv t := by
  obtain ⟨hrx, hp⟩ := (txnInv_sending hst).mp (h.inFlight x hx)
  rcases sendStep_next.mp ht with ⟨hb, b, hbyte, rfl⟩ | ⟨-, hi, hlen, rfl⟩
  · have hblock := h.toBlockInv.sendByte hb hbyte
    cases hlast : (sendByte s b).txBusy with
    | true => exact .of_txn_some hblock hx ((txnInv_sending hst).mpr ⟨hrx, hp⟩)
    | false => exact .awaitResponse hblock hlast hrx
  · exact .of_txn_some (h.toBlockInv.sendStart hi hlen) hx ((txnInv_sending hst).mpr ⟨hrx, hp⟩)

theorem Inv.txnTimeout (h : BlockInv s) (ht : txnTimeout x s = .next t) : Inv t := by
  have hblock := h.txnTimeout ht
  obtain ⟨htx, rfl⟩ := txnTimeout_next.mp ht
  exact .of_txn_some hblock rfl ((txnInv_failed rfl).mpr ⟨⟨htx, rfl⟩, nofun⟩)

theorem Inv.receiveStep (h : Inv s) (hx : s.txn = some x) (hst : x.stage = .awaitingResponse)
    (ht : receiveStep x s = .next t) : Inv t := by
  obtain ⟨htx, hmin, hmax, hreading⟩ := (txnInv_awaitingResponse hst).mp (h.inFlight x hx)
  rcases receiveStep_next.mp ht with
    ⟨-, hi, rfl⟩ | ⟨hb, hall, rfl⟩ | ⟨hb, hmore, b, rest, -, hbyte⟩ | ⟨-, -, -, htimeout⟩
  · refine .of_txn_some (h.toBlockInv.receiveStart hi x.expectOp) hx ((txnInv_awaitingResponse hst).mpr ?_)
    exact ⟨htx, hmin, hmax, fun _ => ⟨Nat.zero_le _, rfl⟩⟩
  · obtain ⟨hle, hexpect⟩ := hreading hb
    refine .of_txn_some (h.of_block_eq rfl) rfl ((txnInv_validating rfl).mpr ?_)
    exact ⟨htx, hb, hmin, Nat.le_antisymm hle hall, hexpect⟩
  · have hread : BlockInv (readTake 1 s) := h.of_block_eq rfl
    have hblock := hread.rxByteOp hbyte
    obtain ⟨-, hn, c, -, rfl⟩ := rxByteOp_next.mp hbyte
    refine .of_txn_some hblock hx ((txnInv_awaitingResponse hst).mpr ⟨htx, hmin, hmax, fun _ => ⟨?_, ?_⟩⟩)
    · rw [receiveByte_rxN_toNat hn]
      exact hmore
    · exact (hreading hb).2
  · have hclosed : BlockInv (readClose s) := h.of_block_eq rfl
    exact .txnTimeout hclosed htimeout

/-- The end of a decode leads to `Complete` or `Failed` by its verdict (R218). -/
theorem Inv.txnConclude (h : BlockInv s) (hi : Idle s) (hd : s.rxDone = true)
    (ht : txnConclude x s = .next t) : Inv t := by
  have hblock := h.txnConclude ht
  have hcode := ErrorKind.ofCode_eq_none_iff h.errLegal
  rcases txnConclude_next.mp ht with ⟨k, hk, rfl⟩ | ⟨hk, r, -, rfl⟩
  · refine .of_txn_some hblock rfl ((txnInv_failed rfl).mpr ⟨hi, fun _ he => ?_⟩)
    exact nomatch (hcode.mpr he).symm.trans hk
  · exact .of_txn_some hblock rfl ((txnInv_complete rfl).mpr ⟨hi, hd, hcode.mp hk⟩)

theorem Inv.txnEnd (h : BlockInv s) : Inv (txnEnd s) := .of_txn_none (h.of_block_eq rfl) rfl

/-- Every step of a level B transaction keeps the invariant. -/
theorem Inv.txnAdvance (h : Inv s) (hx : s.txn = some x) (ht : txnAdvance x s = .next t) : Inv t := by
  rcases txnAdvance_next.mp ht with
    ⟨hst, rfl⟩ | ⟨hst, hsend⟩ | ⟨hst, hreceive⟩ | ⟨hst, v, hend, hconclude⟩ | ⟨-, rfl⟩ | ⟨-, rfl⟩
  case inl => exact h.txnDrain hx hst
  case inr.inl => exact h.sendStep hx hst hsend
  case inr.inr.inl => exact h.receiveStep hx hst hreceive
  case inr.inr.inr.inl =>
    obtain ⟨htx, -⟩ := (txnInv_validating hst).mp (h.inFlight x hx)
    obtain ⟨htx', hrx', hdone, -⟩ := rxEndOp_frame hend
    exact .txnConclude (h.toBlockInv.rxEndOp hend) ⟨htx'.trans htx, hrx'⟩ hdone hconclude
  case inr.inr.inr.inr.inl => exact .txnEnd h.toBlockInv
  case inr.inr.inr.inr.inr => exact .txnEnd h.toBlockInv

theorem Inv.txnBegin {c : Command} {opcode : Byte} {payload : List Byte} (h : BlockInv s)
    (ht : txnBegin c opcode payload s = .next t) : Inv t := by
  have hblock := h.txnBegin ht
  obtain ⟨-, hi, hp, rfl⟩ := txnBegin_next.mp ht
  exact .of_txn_some hblock rfl ((txnInv_draining rfl).mpr ⟨(State.busy_eq_false s).mp hi, hp⟩)

end Edges

/-! ### Every step -/

/-- Every action of the host between two transactions keeps the invariant. -/
theorem Inv.runAction {a : HostAction} {s t : State} (h : BlockInv s) (hn : s.txn = none)
    (ht : runAction a s = .next t) : Inv t := by
  rcases runAction_next.mp ht with ⟨r, i, -, -, hexec⟩ | ⟨i, -, hbegin⟩ | ⟨-, hconnect⟩ | ⟨-, hclose⟩
  · exact .of_txn_none (h.exec hexec) (exec_txn_none hn hexec)
  · obtain ⟨c, opcode, payload, -, hbegin⟩ := levelBOp_next.mp hbegin
    exact .txnBegin h hbegin
  · obtain ⟨-, rfl⟩ := connectOp_next.mp hconnect
    exact .of_txn_none (h.of_block_eq rfl) rfl
  · obtain ⟨-, rfl⟩ := closeOp_next.mp hclose
    exact .of_txn_none (h.of_block_eq rfl) rfl

theorem assertReset_txn (s : State) : (assertReset s).txn = none := by
  rw [State.txn, assertReset_session]
  cases s.session <;> rfl

/-- The reset input puts the block at its reset state, and discards a transaction in flight (R43, R280). -/
theorem assertReset_inv (s : State) : Inv (assertReset s) :=
  .of_txn_none (reset_blockInv.of_block_eq rfl) (assertReset_txn s)

/-- Settles O57: the reset input, the transaction in flight, idling, and the host's next action each keep it. -/
theorem invKeptByEveryStep : Obligations.InvKeptByEveryStep := by
  intro s t h ht
  rcases step_next.mp ht with
    ⟨-, rfl⟩ | ⟨-, x, hx, hadvance⟩ | ⟨-, -, -, rfl⟩ | ⟨-, hn, a, rest, -, haction⟩
  · exact assertReset_inv s
  · exact h.txnAdvance hx hadvance
  · exact h
  · have htaken : BlockInv { s with actions := rest } := h.of_block_eq rfl
    exact .runAction htaken hn haction

/-- Settles O56. -/
theorem invHoldsAtReset : Obligations.InvHoldsAtReset := .of_txn_none reset_blockInv rfl

/-! ### The packing of `STATUS` (R36) -/

theorem getLsbD_flagBit (b : Bool) (i : Nat) : (flagBit b).getLsbD i = if i = 0 then b else false := by
  cases b <;> simp [flagBit]

/-- A flag put above `n` bits is bit `n`. -/
theorem getLsbD_flagBit_append {n : Nat} (b : Bool) (v : BitVec n) (i : Nat) :
    (flagBit b ++ v).getLsbD i = if i < n then v.getLsbD i else if i = n then b else false := by
  rw [BitVec.getLsbD_append, getLsbD_flagBit]
  by_cases hi : i < n
  · simp [hi]
  · have hzero : (i - n = 0) = (i = n) := propext (by omega)
    simp [hi, hzero]

theorem getLsbD_packing (busy done len sync trunc : Bool) (e : ErrCode) (i : Nat) :
    (flagBit busy ++ (flagBit done ++ (flagBit len ++ (flagBit sync ++ (flagBit trunc ++ e))))).getLsbD i =
      if i < 3 then e.getLsbD i else [trunc, sync, len, done, busy].getD (i - 3) false := by
  simp only [getLsbD_flagBit_append]
  match i with
  | 0 | 1 | 2 | 3 | 4 | 5 | 6 | 7 => rfl
  | i + 8 => simp

/-- `STATUS`, bit by bit: `ERR` in the low three, then the flags, then `BUSY` (R36). -/
theorem getLsbD_statusReg (s : State) (i : Nat) :
    (statusReg s).getLsbD i =
      if i < 3 then s.err.getLsbD i else [s.trunc, s.syncOk, s.lenOk, s.rxDone, s.busy].getD (i - 3) false :=
  getLsbD_packing s.busy s.rxDone s.lenOk s.syncOk s.trunc s.err i

theorem extractLsb'_statusReg (s : State) : (statusReg s).extractLsb' 0 3 = s.err := by
  refine BitVec.eq_of_getLsbD_eq fun i hi => ?_
  rw [BitVec.getLsbD_extractLsb', Nat.zero_add, getLsbD_statusReg, if_pos hi, decide_eq_true hi, Bool.true_and]

/-- Settles O34. -/
theorem statusPacking : Obligations.StatusPacking := by
  refine ⟨fun s => ?_, fun s h => ⟨?_, h.errLegal⟩, by decide⟩
  · refine ⟨extractLsb'_statusReg s, ?_, ?_, ?_, ?_, ?_⟩ <;> exact getLsbD_statusReg s _
  · rintro ⟨htx, hrx⟩
    rcases h.exclusive with hidle | hidle
    · exact nomatch hidle.symm.trans htx
    · exact nomatch hidle.symm.trans hrx

/-! ### The host's reads (R20, R30, R38, R39) -/

/-- Settles O35: each view as the buffer gives it, and below its threshold nothing to read. -/
theorem viewsOfTheReceivedBuffer : Obligations.ViewsOfTheReceivedBuffer := by
  intro s buf hbuf hlen
  have h : HoldsBuffer s buf := ⟨hbuf, hlen⟩
  refine ⟨rxSyncView_of_holds h, rxOpcodeView_of_holds h, rxLenView_of_holds h, rxCrcView_of_holds h, ?_, ?_, ?_, ?_⟩
  · intro hn
    rw [readReg, rxSyncView_of_holds h, if_neg (by omega)]
  · intro hn
    rw [readReg, rxOpcodeView_of_holds h, if_neg (by omega)]
  · intro hn
    rw [readReg, rxLenView_of_holds h, if_neg (by omega)]
  · intro hn
    rw [readReg, rxCrcView_of_holds h, if_neg]
    rintro ⟨hb, hle⟩
    rcases hn with hb' | hlt
    · exact nomatch hb.symm.trans hb'
    · omega

/-- Settles O36: the storage registers answer by definition, the views as the buffer gives them. -/
theorem hostReadsOfRegisters : Obligations.HostReadsOfRegisters := by
  refine ⟨by decide, fun s => ⟨rfl, rfl, rfl, rfl, rfl, rfl, rfl, rfl⟩, fun s buf hbuf hlen => ?_⟩
  have h : HoldsBuffer s buf := ⟨hbuf, hlen⟩
  refine ⟨?_, ?_, ?_, ?_⟩
  · intro hn
    rw [readReg, rxSyncView_of_holds h, if_pos hn]
  · intro hn
    rw [readReg, rxOpcodeView_of_holds h, if_pos hn]
  · intro hn
    rw [readReg, rxLenView_of_holds h, if_pos hn, lengthField]
  · intro hb hn
    rw [readReg, rxCrcView_of_holds h, if_pos ⟨hb, hn⟩, trailer]

theorem hostReadTxbuf_outside {s : State} {i : Nat} (hi : s.txLen.toNat ≤ i) :
    hostReadTxbuf s i = .error .noValue := by
  rw [hostReadTxbuf, readTxbuf, if_neg (Nat.not_lt.mpr hi)]

theorem hostReadRxbuf_outside {s : State} {i : Nat} (hi : s.rxN.toNat ≤ i) :
    hostReadRxbuf s i = .error .noValue := by
  rw [hostReadRxbuf, readRxbuf, if_neg (Nat.not_lt.mpr hi)]

theorem BlockInv.hostReadTxbuf_inside {s : State} (h : BlockInv s) {i : Nat} (hi : i < s.txLen.toNat) :
    ∃ b, s.txbuf.bytes[i]? = some b ∧ hostReadTxbuf s i = .ok b := by
  have hbyte := getElem?_eq_byteAt (h.txbuf_length.symm ▸ hi)
  refine ⟨_, hbyte, ?_⟩
  rw [hostReadTxbuf, h.readTxbuf_eq, hbyte]

theorem BlockInv.hostReadRxbuf_inside {s : State} (h : BlockInv s) {i : Nat} (hi : i < s.rxN.toNat) :
    ∃ b, s.rxbuf.bytes[i]? = some b ∧ hostReadRxbuf s i = .ok b := by
  have hbyte := getElem?_eq_byteAt (h.rxbuf_length.symm ▸ hi)
  refine ⟨_, hbyte, ?_⟩
  rw [hostReadRxbuf, readRxbuf_of_holds h.holdsBuffer, hbyte]

/-- Settles O37. -/
theorem bufferReadsAreBounded : Obligations.BufferReadsAreBounded :=
  ⟨fun _ _ => hostReadTxbuf_outside, fun _ _ => hostReadRxbuf_outside,
    fun _ _ h => h.toBlockInv.hostReadTxbuf_inside, fun _ _ h => h.toBlockInv.hostReadRxbuf_inside⟩

/-! ### What the framer and `RX_BYTE` store -/

theorem readRxbuf_congr {s t : State} (hn : t.rxN = s.rxN) (hbuf : t.rxbuf = s.rxbuf) (a : Nat) :
    readRxbuf t a = readRxbuf s a := by
  rw [readRxbuf, readRxbuf, hn, hbuf]

/-- `ENCODE` and `TX_START` leave one of two states, which load the same frame (R142, R144). -/
theorem framer_next {opcode : Byte} {payload : List Byte} {s t : State} {i : Instr}
    (hi : i = .encode opcode payload ∨ i = .txStart opcode payload) (ht : exec i s = .next t) :
    payload.length ≤ 65535 ∧ (sendWhole s opcode payload = t ∨ sendStart s opcode payload = t) := by
  rcases hi with rfl | rfl
  · obtain ⟨-, hp, rfl⟩ := encodeOp_next.mp ht
    exact ⟨hp, .inl rfl⟩
  · obtain ⟨-, hp, rfl⟩ := startOp_next.mp ht
    exact ⟨hp, .inr rfl⟩

/-- Settles O17: both operations load the same frame and leave the receiver alone. -/
theorem framerStoresThePayload : Obligations.FramerStoresThePayload := by
  intro opcode payload s t i hi ht
  obtain ⟨hp, rfl | rfl⟩ := framer_next hi ht <;>
    exact ⟨readTxbuf_of_holds rfl (toNat_txLen_of_framable hp), fun _ => rfl, readRxbuf_congr rfl rfl,
      rfl, rfl, rfl, rfl, rfl, rfl, rfl, rfl⟩

section RxByte
variable {s : State} (hn : s.rxN.toNat < 65542) (b : Byte) (c : Word)
include hn

theorem readRxbuf_receiveByte_self : readRxbuf (receiveByte s b c) s.rxN.toNat = some b := by
  rw [readRxbuf, receiveByte_rxN_toNat hn, if_pos (Nat.lt_succ_self _), receiveByte_rxbuf, Mem.read_write_same]

theorem readRxbuf_receiveByte_of_lt {a : Nat} (ha : a < s.rxN.toNat) :
    readRxbuf (receiveByte s b c) a = readRxbuf s a := by
  rw [readRxbuf, readRxbuf, receiveByte_rxN_toNat hn, if_pos (Nat.lt_succ_of_lt ha), if_pos ha, receiveByte_rxbuf,
    Mem.read_write_other _ _ (Nat.ne_of_lt ha)]

end RxByte

/-- Settles O25: the buffer by the rules of a write, `CRC` by the phase. -/
theorem rxByteStoresOnlyItsByte : Obligations.RxByteStoresOnlyItsByte := by
  intro b s t ht
  obtain ⟨-, hn, c, hc, rfl⟩ := rxByteOp_next.mp ht
  have hcrc := crcTwoBack_eq_some.mp hc
  refine ⟨Mem.read_write_same _ _ _, readRxbuf_receiveByte_self hn b c, fun a ha => Mem.read_write_other _ _ ha,
    fun a ha => readRxbuf_receiveByte_of_lt hn b c ha, fun _ => rfl, rfl, receiveByte_rxN_toNat hn b c,
    rfl, rfl, rfl, rfl, rfl, rfl, rfl, rfl, rfl, rfl, rfl, rfl, fun hlt => ?_, fun hge => ?_⟩
  · rcases hcrc with ⟨-, hkeep⟩ | ⟨hge, -⟩
    · exact hkeep
    · omega
  · rcases hcrc with ⟨hlt, -⟩ | ⟨-, hfold⟩
    · omega
    · exact hfold

/-! ### Refusals while busy -/

theorem txnBegin_refused_of_busy {s : State} (hb : s.busy = true) (c : Command) (opcode : Byte)
    (payload : List Byte) : ∃ r, txnBegin c opcode payload s = .refused r := by
  unfold txnBegin
  split
  · exact ⟨_, rfl⟩
  · split
    · exact ⟨_, rfl⟩
    · exact ⟨_, whenIdle_of_busy hb⟩

theorem transact_refused_of_busy {s : State} (hb : s.busy = true) (c : Command) (opcode : Byte)
    (payload : List Byte) : ∃ r, transact c opcode payload s = .refused r := by
  obtain ⟨r, hr⟩ := txnBegin_refused_of_busy hb c opcode payload
  exact ⟨r, by rw [transact, hr, andThen_of_refused]⟩

/-- While busy, everything but the four operations that continue or end a run is refused (R257). -/
theorem exec_refused_of_busy {s : State} (hb : s.busy = true) {i : Instr} (hstep : i ≠ .txStep)
    (hbyte : ∀ b, i ≠ .rxByte b) (hend : i ≠ .rxEnd) (habort : i ≠ .rxAbort) : ∃ r, exec i s = .refused r := by
  cases i with
  | version | spiTransfer payload | led payload | readGpio | readRegister r | ledOn | ledOff =>
    exact transact_refused_of_busy hb _ _ _
  | crcSeed v | crcUpdate b | crcCompute buf | crcInit => exact ⟨_, whenIdle_of_busy hb⟩
  | encode opcode payload | txStart opcode payload => exact ⟨_, whenIdle_of_busy hb⟩
  | decode expect buf | rxStart expect => exact ⟨_, whenIdle_of_busy hb⟩
  | rxAbort => exact absurd rfl habort
  | txStep => exact absurd rfl hstep
  | rxByte b => exact absurd rfl (hbyte b)
  | rxEnd => exact absurd rfl hend

theorem abortOp_refused {s : State} (h : s.txBusy = true) : abortOp s = .refused .busy := by simp [abortOp, h]

theorem stepOp_refused {s : State} (h : s.txBusy = false) : stepOp s = .refused .notSending := by simp [stepOp, h]

theorem rxByteOp_refused {s : State} (h : s.rxBusy = false) (b : Byte) : rxByteOp b s = .refused .notReceiving := by
  simp [rxByteOp, h]

theorem rxEndOp_refused {s : State} (h : s.rxBusy = false) : rxEndOp s = .refused .notReceiving := by
  simp [rxEndOp, h]

/-- Settles O59: of the operations that continue or end a run, the receiver's are refused too. -/
theorem sendingAcceptsOnlyTxStep : Obligations.SendingAcceptsOnlyTxStep := by
  intro s i htx hrx hstep
  by_cases hcont : (∃ b, i = .rxByte b) ∨ i = .rxEnd ∨ i = .rxAbort
  · rcases hcont with ⟨b, rfl⟩ | rfl | rfl
    · exact ⟨_, rxByteOp_refused hrx b⟩
    · exact ⟨_, rxEndOp_refused hrx⟩
    · exact ⟨_, abortOp_refused htx⟩
  · push Not at hcont
    obtain ⟨hbyte, hend, habort⟩ := hcont
    exact exec_refused_of_busy ((State.busy_eq_true s).mpr (.inl htx)) hstep hbyte hend habort

/-- Settles O60: of the operations that continue or end a run, the sender's is refused too. -/
theorem receivingAcceptsOnlyItsContinuation : Obligations.ReceivingAcceptsOnlyItsContinuation := by
  intro s i hrx htx hbyte hend habort
  by_cases hstep : i = .txStep
  · subst hstep
    exact ⟨_, stepOp_refused htx⟩
  · exact exec_refused_of_busy ((State.busy_eq_true s).mpr (.inr hrx)) hstep hbyte hend habort

end Sys2Proof.Machine
end

section
/-! SUPPORT. The family of the requests: what a step does with the host's next action (R72, R228; Log 1, Log 2). -/

namespace Sys2Proof.Machine

/-- Between two transactions a step is the host's next action at the state with that action taken (R228). -/
theorem step_of_action {s : State} {a : HostAction} {rest : List HostAction} (hreset : s.resetInput = false)
    (htxn : s.txn = none) (hacts : s.actions = a :: rest) : step s = runAction a { s with actions := rest } := by
  have hnext : nextAction s = some (a, { s with actions := rest }) := by simp only [nextAction, hacts]
  simp [step, hreset, htxn, hostStep, hnext]

theorem runRequest_of_decodes {r : Request} {i : Instr} (hdec : decodeRequest r = .ok i) (s : State) :
    runRequest r s = exec i s := by
  rw [runRequest, hdec]

/-- Settles O51: the step takes the request, and the request runs what it decodes to. -/
theorem stepRunsTheDecodedInstruction : Obligations.StepRunsTheDecodedInstruction := by
  intro s r rest i hreset htxn hacts hdec
  calc step s
      _ = runAction (.issue r) { s with actions := rest } := step_of_action hreset htxn hacts
      _ = runRequest r { s with actions := rest } := rfl
      _ = exec i { s with actions := rest } := runRequest_of_decodes hdec _

end Sys2Proof.Machine
end

section
/-! SUPPORT. The family of the encoding: the decoder's and the encoder's equations, and that each undoes the other
(spec/30_encoding.md R90 to R108; Log 1, Log 10, Log 17). -/

namespace Sys2Proof

/-! ### Bytes of a word, and the operation byte -/

theorem hi8_be16 (h l : Byte) : hi8 (be16 h l) = h := BitVec.extractLsb'_append_eq_left

theorem lo8_be16 (h l : Byte) : lo8 (be16 h l) = l := BitVec.extractLsb'_append_eq_right

theorem be16_hi8_lo8 (v : Word) : be16 (hi8 v) (lo8 v) = v := by
  rw [be16, hi8, lo8, BitVec.extractLsb'_append_extractLsb'_eq_extractLsb' (by decide), BitVec.extractLsb'_eq_self]

/-- A byte with bits 7:4 zero is its bits 3:0 below a zero nibble (Log 1). -/
theorem zero_append_low_of_high_zero {b : Byte} (h : b.extractLsb' 4 4 = 0#4) : 0x0#4 ++ b.extractLsb' 0 4 = b := by
  rw [← h, BitVec.extractLsb'_append_extractLsb'_eq_extractLsb' (by decide), BitVec.extractLsb'_eq_self]

/-- A code selects the operation it is the code of (R103). -/
theorem OpName.ofCode_eq_some_iff {c : BitVec 4} {n : OpName} : OpName.ofCode c = some n ↔ n.code = c := by
  cases n <;> revert c <;> decide

/-- The reserved codes of R104 are those that select no operation. -/
theorem OpName.ofCode_eq_none_iff :
    ∀ {c : BitVec 4}, OpName.ofCode c = none ↔ c ∈ [0x6#4, 0x7#4, 0xD#4, 0xE#4, 0xF#4] := by
  decide

/-! ### Operation requests -/

/-- A first byte that is a 4-bit code selects by that code (R103, R104). -/
theorem decodeRequest_op_code (c : BitVec 4) (ops : List Byte) :
    decodeRequest (.op ((0x0#4 ++ c) :: ops)) =
      (OpName.ofCode c).elim (.error (.reservedOperation c)) (decodeOperands · ops) := by
  have hhigh : (0x0#4 ++ c).extractLsb' 4 4 = 0#4 := BitVec.extractLsb'_append_eq_left
  have hlow : (0x0#4 ++ c).extractLsb' 0 4 = c := BitVec.extractLsb'_append_eq_right
  rw [decodeRequest, decodeOperation, if_pos hhigh, hlow]
  cases OpName.ofCode c <;> rfl

theorem decodeRequest_opByte (n : OpName) (ops : List Byte) :
    decodeRequest (.op (opByte n :: ops)) = decodeOperands n ops := by
  rw [opByte, decodeRequest_op_code, OpName.ofCode_eq_some_iff.mpr rfl, Option.elim_some]

theorem decodeRequest_reserved {c : BitVec 4} (hc : c ∈ [0x6#4, 0x7#4, 0xD#4, 0xE#4, 0xF#4]) (ops : List Byte) :
    decodeRequest (.op ((0x0#4 ++ c) :: ops)) = .error (.reservedOperation c) := by
  rw [decodeRequest_op_code, OpName.ofCode_eq_none_iff.mpr hc, Option.elim_none]

/-- What decodes as an operation is an operation's byte and its operands. -/
theorem decodeRequest_op_eq_ok {m : List Byte} {i : Instr} :
    decodeRequest (.op m) = .ok i ↔ ∃ n ops, m = opByte n :: ops ∧ decodeOperands n ops = .ok i := by
  constructor
  · intro h
    cases m with
    | nil => exact nomatch h
    | cons first ops =>
      by_cases hhigh : first.extractLsb' 4 4 = 0#4
      · rw [← zero_append_low_of_high_zero hhigh] at h ⊢
        rw [decodeRequest_op_code] at h
        cases hn : OpName.ofCode (first.extractLsb' 0 4) with
        | none =>
          rw [hn] at h
          exact nomatch h
        | some n =>
          rw [hn] at h
          exact ⟨n, ops, by rw [opByte, OpName.ofCode_eq_some_iff.mp hn], h⟩
      · rw [decodeRequest, decodeOperation, if_neg hhigh] at h
        exact nomatch h
  · rintro ⟨n, ops, rfl, h⟩
    rwa [decodeRequest_opByte]

/-- The operands of each operation are written back as they were read (R103, R105). -/
theorem encodeRequest_of_decodeOperands {n : OpName} {ops : List Byte} {i : Instr}
    (h : decodeOperands n ops = .ok i) : encodeRequest i = .op (opByte n :: ops) ∧ i.expand = i :=
  match n, ops, h with
  | .crcSeed, [_, _], rfl => ⟨by rw [encodeRequest, hi8_be16, lo8_be16], rfl⟩
  | .crcUpdate, [_], rfl => ⟨rfl, rfl⟩
  | .crcCompute, _, rfl => ⟨rfl, rfl⟩
  | .encode, _ :: _, rfl => ⟨rfl, rfl⟩
  | .decode, _ :: _, rfl => ⟨rfl, rfl⟩
  | .rxAbort, [], rfl => ⟨rfl, rfl⟩
  | .txStart, _ :: _, rfl => ⟨rfl, rfl⟩
  | .txStep, [], rfl => ⟨rfl, rfl⟩
  | .rxStart, [_], rfl => ⟨rfl, rfl⟩
  | .rxByte, [_], rfl => ⟨rfl, rfl⟩
  | .rxEnd, [], rfl => ⟨rfl, rfl⟩

/-! ### Frame requests -/

/-- With a whole header the opcode byte alone selects (R108). -/
theorem decodeRequest_frame (sh sl opcode lh ll : Byte) (payload : List Byte) :
    decodeRequest (.frame (sh :: sl :: opcode :: lh :: ll :: payload)) = decodeFrame opcode payload := rfl

theorem decodeRequest_frameRequest (opcode : Byte) (payload : List Byte) :
    decodeRequest (frameRequest opcode payload) = decodeFrame opcode payload := rfl

theorem decodeRequest_frame_short : ∀ {m : List Byte}, m.length < 5 → decodeRequest (.frame m) = .error .frameHeader
  | [], _ | [_], _ | [_, _], _ | [_, _, _], _ | [_, _, _, _], _ => rfl
  | _ :: _ :: _ :: _ :: _ :: _, h => absurd h (by simp)

theorem decodeFrame_version : decodeFrame Config.opVersion [] = .ok .version := rfl

theorem decodeFrame_spiTransfer (payload : List Byte) :
    decodeFrame Config.opSpiTransfer payload = .ok (.spiTransfer payload) := rfl

theorem decodeFrame_led (payload : List Byte) : decodeFrame Config.opLed payload = .ok (.led payload) := rfl

theorem decodeFrame_readGpio : decodeFrame Config.opReadGpio [] = .ok .readGpio := rfl

/-- The opcode bytes without a frame (R197, Log 17). -/
theorem decodeFrame_of_four_le {opcode : Byte} (h : 4 ≤ opcode.toNat) (payload : List Byte) :
    decodeFrame opcode payload = .error (.frameOpcode opcode) := by
  unfold decodeFrame
  split
  case h_5 => rfl
  all_goals omega

/-- The four opcodes of R98, and what decodes under each of them. -/
theorem decodeFrame_eq_ok {opcode : Byte} {payload : List Byte} {i : Instr} :
    decodeFrame opcode payload = .ok i ↔
      (opcode = Config.opVersion ∧ payload = [] ∧ i = .version) ∨
      (opcode = Config.opSpiTransfer ∧ i = .spiTransfer payload) ∨
      (opcode = Config.opLed ∧ i = .led payload) ∨
      (opcode = Config.opReadGpio ∧ payload = [] ∧ i = .readGpio) := by
  constructor
  · intro h
    unfold decodeFrame at h
    split at h
    case h_1 ho =>
      split at h
      · exact .inl ⟨BitVec.eq_of_toNat_eq ho, ‹_›, (Except.ok.inj h).symm⟩
      · exact nomatch h
    case h_2 ho => exact .inr (.inl ⟨BitVec.eq_of_toNat_eq ho, (Except.ok.inj h).symm⟩)
    case h_3 ho => exact .inr (.inr (.inl ⟨BitVec.eq_of_toNat_eq ho, (Except.ok.inj h).symm⟩))
    case h_4 ho =>
      split at h
      · exact .inr (.inr (.inr ⟨BitVec.eq_of_toNat_eq ho, ‹_›, (Except.ok.inj h).symm⟩))
      · exact nomatch h
    case h_5 => exact nomatch h
  · rintro (⟨rfl, rfl, rfl⟩ | ⟨rfl, rfl⟩ | ⟨rfl, rfl⟩ | ⟨rfl, rfl, rfl⟩)
    · exact decodeFrame_version
    · exact decodeFrame_spiTransfer payload
    · exact decodeFrame_led payload
    · exact decodeFrame_readGpio

theorem encodeRequest_of_decodeFrame {opcode : Byte} {payload : List Byte} {i : Instr}
    (h : decodeFrame opcode payload = .ok i) : encodeRequest i = frameRequest opcode payload ∧ i.expand = i := by
  rcases decodeFrame_eq_ok.mp h with ⟨rfl, rfl, rfl⟩ | ⟨rfl, rfl⟩ | ⟨rfl, rfl⟩ | ⟨rfl, rfl, rfl⟩ <;> exact ⟨rfl, rfl⟩

/-! ### The obligations -/

/-- Settles O53: a frame is selected by its opcode, an operation by its code; a pseudo row has the request of its
expansion. -/
theorem decodeOfEncode : Obligations.DecodeOfEncode := by
  intro i _
  cases i with
  | version | spiTransfer | led | readGpio | readRegister | ledOn | ledOff =>
    exact decodeRequest_frameRequest _ _
  | crcSeed | crcInit => rw [encodeRequest, decodeRequest_opByte, decodeOperands, be16_hi8_lo8, Instr.expand]
  | crcUpdate | crcCompute | encode | decode | rxAbort | txStart | txStep | rxStart | rxByte | rxEnd =>
    exact decodeRequest_opByte _ _

/-- Settles O54. -/
theorem encodeOfDecode : Obligations.EncodeOfDecode := by
  refine ⟨fun m i h => ?_, fun _ _ _ _ _ _ _ h => encodeRequest_of_decodeFrame h, fun _ => decodeRequest_frame_short⟩
  obtain ⟨n, ops, rfl, hops⟩ := decodeRequest_op_eq_ok.mp h
  exact encodeRequest_of_decodeOperands hops

/-- Settles O55: the operation samples by their operation byte, every frame by its opcode byte. -/
theorem requestSamples : Obligations.RequestSamples := by
  refine ⟨decodeRequest_opByte .crcSeed _, decodeRequest_opByte .encode _, decodeRequest_opByte .rxByte _,
    decodeFrame_version, decodeFrame_spiTransfer _, fun sh sl lh ll payload => ⟨decodeFrame_version,
      decodeFrame_spiTransfer payload, decodeFrame_led payload, decodeFrame_readGpio, fun opcode h => ?_⟩⟩
  exact decodeFrame_of_four_le h payload

end Sys2Proof

namespace Sys2Proof.Machine

theorem step_of_no_action {s : State} (hreset : s.resetInput = false) (htxn : s.txn = none)
    (hacts : s.actions = []) : step s = .next s :=
  step_next.mpr (.inr (.inr (.inl ⟨hreset, htxn, hacts, rfl⟩)))

theorem runRequest_of_error {r : Request} {why : DecodeError} (hdec : decodeRequest r = .error why) (s : State) :
    runRequest r s = .refused (.undecodable why) := by
  rw [runRequest, hdec]

/-- Settles O52: a request that does not decode is taken and refused by the decoder's reason. -/
theorem stepIdlesOrRefuses : Obligations.StepIdlesOrRefuses := by
  refine ⟨fun _ => step_of_no_action, fun s r rest why hreset htxn hacts hdec => ?_,
    fun _ ops hc => decodeRequest_reserved hc ops⟩
  calc step s
      _ = runAction (.issue r) { s with actions := rest } := step_of_action hreset htxn hacts
      _ = runRequest r { s with actions := rest } := rfl
      _ = .refused (.undecodable why) := runRequest_of_error hdec _

end Sys2Proof.Machine
end

section
/-! SUPPORT. The family of the CRC engine: the table as the map of its formula, its linearity, the step and the fold,
and the four operations (spec/40_crc_engine.md R120 to R129; Log 14). -/

namespace Sys2Proof.Machine

/-! ### One round, and eight -/

/-- A round shifts, and adds the generator when the bit shifted out is set (R120). -/
theorem tableRound_eq_xor (r : Word) : tableRound r = (r <<< 1) ^^^ (if r.msb then Config.poly else 0#16) := by
  cases h : r.msb <;> simp [tableRound, h]

theorem tableRound_xor (x y : Word) : tableRound (x ^^^ y) = tableRound x ^^^ tableRound y := by
  have hpoly : (if (x.msb ^^ y.msb) then Config.poly else 0#16) =
      (if x.msb then Config.poly else 0#16) ^^^ (if y.msb then Config.poly else 0#16) := by
    cases x.msb <;> cases y.msb <;> rfl
  simp only [tableRound_eq_xor, BitVec.msb_xor, BitVec.shiftLeft_xor_distrib, hpoly]
  ac_rfl

/-- The generator is odd, so the lowest bit after a round tells the bit that was shifted out. -/
theorem getLsbD_zero_tableRound (r : Word) : (tableRound r).getLsbD 0 = r.msb := by
  cases h : r.msb <;> simp [tableRound, h]

/-- A shift by one loses the top bit and nothing else. -/
theorem eq_of_shiftLeft_one_eq {x y : Word} (hmsb : x.msb = y.msb) (hshift : x <<< 1 = y <<< 1) : x = y := by
  have hnat : x.toNat * 2 % 65536 = y.toNat * 2 % 65536 := by
    simpa [Nat.shiftLeft_eq] using congrArg BitVec.toNat hshift
  have hbit : 32768 ≤ x.toNat ↔ 32768 ≤ y.toNat := by simpa [BitVec.msb_eq_decide] using hmsb
  exact BitVec.eq_of_toNat_eq (by omega)

theorem tableRound_injective : Function.Injective tableRound := by
  intro x y hxy
  have hmsb : x.msb = y.msb := by rw [← getLsbD_zero_tableRound, hxy, getLsbD_zero_tableRound]
  have hshift : x <<< 1 = y <<< 1 := by
    rw [tableRound_eq_xor, tableRound_eq_xor, hmsb] at hxy
    exact (BitVec.xor_left_inj _).mp hxy
  exact eq_of_shiftLeft_one_eq hmsb hshift

theorem tableFormula_eq_iterate (i : Byte) : tableFormula i = tableRound^[8] (be16 i 0x00#8) := rfl

theorem iterate_tableRound_xor (n : Nat) (x y : Word) :
    tableRound^[n] (x ^^^ y) = tableRound^[n] x ^^^ tableRound^[n] y := by
  induction n generalizing x y with
  | zero => rfl
  | succ n ih => simp only [Function.iterate_succ_apply, tableRound_xor, ih]

theorem be16_xor (h h' l l' : Byte) : be16 (h ^^^ h') (l ^^^ l') = be16 h l ^^^ be16 h' l' := BitVec.xor_append.symm

theorem tableFormula_xor (a b : Byte) : tableFormula (a ^^^ b) = tableFormula a ^^^ tableFormula b := by
  have hword : be16 (a ^^^ b) 0x00#8 = be16 a 0x00#8 ^^^ be16 b 0x00#8 := be16_xor a b 0x00#8 0x00#8
  simp only [tableFormula_eq_iterate, hword, iterate_tableRound_xor]

theorem tableFormula_injective : Function.Injective tableFormula := by
  intro a b h
  have hword : be16 a 0x00#8 = be16 b 0x00#8 := tableRound_injective.iterate 8 h
  rw [← hi8_be16 a 0x00#8, hword, hi8_be16]

/-! ### The table -/

/-- The listed entries, in order, are the formula's values at the 256 indices (R129). -/
theorem crcTable_eq_map_formula : crcTable = (List.finRange 256).map fun i => tableFormula (BitVec.ofFin i) := by
  decide +kernel

theorem length_crcTable : crcTable.length = 256 := by
  rw [crcTable_eq_map_formula, List.length_map, List.length_finRange]

theorem tableEntry_eq_formula (i : Byte) : tableEntry i = tableFormula i := by
  have hi : i.toNat < 256 := i.isLt
  simp [tableEntry, crcTable_eq_map_formula, List.getD, hi]

theorem nodup_crcTable : crcTable.Nodup := by
  rw [crcTable_eq_map_formula]
  refine (List.nodup_finRange 256).map fun i j h => ?_
  exact BitVec.ofFin.inj (tableFormula_injective h)

theorem tableEntry_xor (a b : Byte) : tableEntry (a ^^^ b) = tableEntry a ^^^ tableEntry b := by
  simp only [tableEntry_eq_formula, tableFormula_xor]

@[simp] theorem tableEntry_zero : tableEntry 0x00#8 = 0x0000#16 := rfl

/-- Settles O8. -/
theorem tableIsLinear : Obligations.TableIsLinear := tableEntry_xor

/-- Settles O6. -/
theorem tableFollowsTheGenerator : Obligations.TableFollowsTheGenerator := ⟨length_crcTable, tableEntry_eq_formula⟩

/-- Settles O7: the entries are distinct because each round is injective; the other checks compute. -/
theorem tableSpotChecks : Obligations.TableSpotChecks :=
  ⟨nodup_crcTable, by decide +kernel, rfl, rfl, rfl, rfl, rfl, rfl, rfl, rfl, rfl⟩

/-! ### The step -/

theorem hi8_eq_shift (v : Word) : hi8 v = (v >>> 8).setWidth 8 := by
  ext i hi
  simp [hi8]

/-- The 16-bit mask in 24 bits drops the top byte. -/
theorem mask_eq_setWidth (x : BitVec 24) : x &&& 0x00FFFF#24 = (x.setWidth 16).setWidth 24 := by
  apply BitVec.eq_of_toNat_eq
  have hmask : x.toNat &&& 65535 = x.toNat % 65536 := Nat.and_two_pow_sub_one_eq_mod _ 16
  simp [hmask]
  omega

theorem shift_in_24_bits (seed : Word) : ((seed.setWidth 24) <<< 8).setWidth 16 = seed <<< 8 := by
  ext i hi
  simp

/-- Settles O5: a mask drops what the shift puts above bit 15, and a table entry has nothing there. -/
theorem crcUpdateFormula : Obligations.CrcUpdateFormula := by
  intro seed b
  have hwide (v : Word) : (v.setWidth 24).setWidth 16 = v := by
    rw [BitVec.setWidth_setWidth_of_le _ (by decide), BitVec.setWidth_eq]
  rw [crcUpdate, hi8_eq_shift, mask_eq_setWidth, mask_eq_setWidth, hwide,
    BitVec.setWidth_xor (x := BitVec.setWidth 24 _), hwide, shift_in_24_bits]
  exact ⟨rfl, rfl⟩

theorem hi8_shiftLeft (c : Word) : hi8 (c <<< 8) = lo8 c := by
  ext i hi
  have hin : 8 + i < 16 := by omega
  simp only [hi8, lo8, BitVec.getElem_extractLsb', BitVec.getLsbD_shiftLeft]
  simp [hin]

theorem crcUpdate_hi8 (c : Word) : crcUpdate c (hi8 c) = c <<< 8 := by
  simp [crcUpdate]

theorem crcUpdate_lo8 (c : Word) : crcUpdate (c <<< 8) (lo8 c) = 0x0000#16 := by
  rw [← hi8_shiftLeft, crcUpdate_hi8, ← BitVec.shiftLeft_add]
  simp

/-! ### The fold -/

theorem crcFold_eq_foldl (seed : Word) (buf : List Byte) : crcFold seed buf = buf.foldl crcUpdate seed := by
  induction buf generalizing seed with
  | nil => rfl
  | cons b rest ih => exact ih (crcUpdate seed b)

/-- Settles O9. -/
theorem crcComputeIsTheFold : Obligations.CrcComputeIsTheFold := ⟨crcFold_eq_foldl Config.seedInit, rfl⟩

/-- Settles O10. -/
theorem crcComposes : Obligations.CrcComposes := fun x y => by
  rw [← crcFold_eq_foldl]
  exact crcFold_append Config.seedInit x y

/-- Its own high byte shifts a CRC's low half up, and its low byte then clears what is left (R128 (d)). -/
theorem crcFold_hi8_lo8 (c : Word) : crcFold c [hi8 c, lo8 c] = 0x0000#16 :=
  calc crcFold c [hi8 c, lo8 c]
      _ = crcUpdate (crcUpdate c (hi8 c)) (lo8 c) := rfl
      _ = crcUpdate (c <<< 8) (lo8 c) := by rw [crcUpdate_hi8]
      _ = 0x0000#16 := crcUpdate_lo8 c

/-- Settles O11. -/
theorem crcResidueIsZero : Obligations.CrcResidueIsZero := fun m =>
  (crcFold_append Config.seedInit m _).trans (crcFold_hi8_lo8 (crcCompute m))

/-! ### The operations -/

theorem busy_eq_false_of_idle {s : State} (h : Idle s) : s.busy = false := (State.busy_eq_false s).mpr h

theorem busy_eq_true_of_not_idle {s : State} (h : ¬ Idle s) : s.busy = true := by
  rwa [Idle, ← State.busy_eq_false, Bool.not_eq_false] at h

theorem exec_crcSeed_of_idle {s : State} (h : Idle s) (v : Word) : exec (.crcSeed v) s = .next (setCrc s v) :=
  whenIdle_of_idle (busy_eq_false_of_idle h)

theorem exec_crcUpdate_of_idle {s : State} (h : Idle s) (b : Byte) :
    exec (.crcUpdate b) s = .next (setCrc s (crcUpdate s.crc b)) :=
  whenIdle_of_idle (busy_eq_false_of_idle h)

theorem exec_crcCompute_of_idle {s : State} (h : Idle s) (buf : List Byte) :
    exec (.crcCompute buf) s = .next (setCrc s (crcCompute buf)) :=
  whenIdle_of_idle (busy_eq_false_of_idle h)

/-- `CRC_INIT` means `CRC_SEED 0xFFFF` in every state (R126). -/
theorem exec_crcInit_eq_crcSeed (s : State) : exec .crcInit s = exec (.crcSeed Config.seedInit) s := rfl

/-- A run of `CRC_UPDATE`s folds its bytes into whatever `CRC` holds. -/
theorem run_crcUpdates_of_idle {s : State} (h : Idle s) (seed : Word) (buf : List Byte) :
    run (buf.map .crcUpdate) (setCrc s seed) = .next (setCrc s (crcFold seed buf)) := by
  induction buf generalizing seed with
  | nil => rfl
  | cons b rest ih =>
    rw [List.map_cons, run_cons, exec_crcUpdate_of_idle (s := setCrc s seed) h, andThen_of_next]
    exact ih (crcUpdate seed b)

/-- Settles O3: after `CRC_INIT` the bytes are folded from the seed that `CRC_COMPUTE` starts from. -/
theorem crcComputeFoldsTheBuffer : Obligations.CrcComputeFoldsTheBuffer := by
  refine ⟨rfl, fun buf s h => exec_crcCompute_of_idle h buf,
    fun _ s h => whenIdle_of_busy (busy_eq_true_of_not_idle h), fun buf s h => ?_, rfl, by decide, by decide⟩
  calc run (.crcInit :: buf.map .crcUpdate) s
      _ = run (buf.map .crcUpdate) (setCrc s Config.seedInit) := by
        rw [run_cons, exec_crcInit_eq_crcSeed, exec_crcSeed_of_idle h, andThen_of_next]
      _ = .next (setCrc s (crcCompute buf)) := run_crcUpdates_of_idle h _ buf
      _ = exec (.crcCompute buf) s := (exec_crcCompute_of_idle h buf).symm

/-- Settles O1. -/
theorem crcSeedWritesOnlyCrc : Obligations.CrcSeedWritesOnlyCrc := by
  refine ⟨rfl, fun v s h => exec_crcSeed_of_idle h v,
    fun _ s h => whenIdle_of_busy (busy_eq_true_of_not_idle h), fun s h => ?_⟩
  calc run [.crcSeed 0x1234#16, .crcUpdate 0x56#8] s
      _ = run ([0x56#8].map .crcUpdate) (setCrc s 0x1234#16) := by
        rw [run_cons, exec_crcSeed_of_idle h, andThen_of_next, List.map_singleton]
      _ = .next (setCrc s 0x3C40#16) := run_crcUpdates_of_idle h _ _

/-- Settles O2. -/
theorem crcUpdateFoldsOneByte : Obligations.CrcUpdateFoldsOneByte := by
  refine ⟨rfl, fun b s h => exec_crcUpdate_of_idle h b,
    fun _ s h => whenIdle_of_busy (busy_eq_true_of_not_idle h), fun s h hcrc => ?_, fun s h hcrc => ?_⟩
  · rw [exec_crcUpdate_of_idle h, hcrc]
    rfl
  · rw [exec_crcUpdate_of_idle h, hcrc]
    rfl

/-- Settles O4. -/
theorem crcInitIsASeed : Obligations.CrcInitIsASeed :=
  ⟨rfl, rfl, exec_crcInit_eq_crcSeed, fun _ h => exec_crcSeed_of_idle h Config.seedInit⟩

end Sys2Proof.Machine
end

section
/-! SUPPORT. The family of the framer: the frame byte by byte, truncation, what `ENCODE`, `TX_START` and `TX_STEP`
answer, and the run of `TX_STEP`s state by state (spec/41_framer.md R140 to R150). -/

namespace Sys2Proof.Machine

/-! ### Truncation (R141) -/

theorem truncate_spi_of_gt {payload : List Byte} (h : 1024 < payload.length) :
    truncate 0x01#8 payload = payload.take 1024 := if_pos ⟨rfl, h⟩

theorem truncate_of_le {payload : List Byte} (h : payload.length ≤ 1024) (opcode : Byte) :
    truncate opcode payload = payload := if_neg fun hcut => Nat.not_lt.mpr h hcut.2

theorem truncate_of_ne {opcode : Byte} (h : opcode ≠ 0x01#8) (payload : List Byte) :
    truncate opcode payload = payload := if_neg fun hcut => h hcut.1

theorem length_truncate (opcode : Byte) (payload : List Byte) :
    (truncate opcode payload).length = if opcode = 0x01#8 then min payload.length 1024 else payload.length := by
  by_cases h : opcode = 0x01#8
  · rw [if_pos h, h]
    rcases Nat.lt_or_ge 1024 payload.length with hlen | hlen
    · rw [truncate_spi_of_gt hlen, List.length_take, Nat.min_comm]
    · rw [truncate_of_le hlen, Nat.min_eq_left hlen]
  · rw [if_neg h, truncate_of_ne h]

theorem truncFlag_eq_decide (opcode : Byte) (payload : List Byte) :
    truncFlag opcode payload = decide (opcode = 0x01#8 ∧ 1024 < payload.length) := by
  rw [truncFlag, Bool.decide_and, ← beq_eq_decide]

/-! ### Two bytes before and two bytes after a CRC region -/

theorem trailer_append (buf : List Byte) (h l : Byte) : trailer (buf ++ [h, l]) = be16 h l := by
  simp [trailer, byteAt]

theorem crcRegion_enclosed (a b : Byte) (core : List Byte) (h l : Byte) :
    crcRegion (a :: b :: (core ++ [h, l])) = core := by
  simp [crcRegion, slice]

/-! ### The frame (R140, R150) -/

section Frame
variable (opcode : Byte) (payload : List Byte)

/-- The bytes of the frame that its CRC covers: opcode, length and truncated payload (R140). -/
abbrev framedCore : List Byte := frameCore opcode (truncate opcode payload)

theorem encodeFrame_eq :
    encodeFrame opcode payload =
      0xAB#8 :: 0xCD#8 :: (framedCore opcode payload ++
        [hi8 (crcCompute (framedCore opcode payload)), lo8 (crcCompute (framedCore opcode payload))]) := rfl

theorem length_framedCore : (framedCore opcode payload).length = (truncate opcode payload).length + 3 := rfl

theorem length_encodeFrame : (encodeFrame opcode payload).length = (truncate opcode payload).length + 7 := by
  simp [encodeFrame_eq, length_framedCore]

theorem crcRegion_encodeFrame : crcRegion (encodeFrame opcode payload) = framedCore opcode payload :=
  crcRegion_enclosed _ _ _ _ _

theorem trailer_encodeFrame : trailer (encodeFrame opcode payload) = crcCompute (framedCore opcode payload) :=
  (trailer_append (0xAB#8 :: 0xCD#8 :: framedCore opcode payload) _ _).trans (be16_hi8_lo8 _)

theorem lengthField_encodeFrame :
    lengthField (encodeFrame opcode payload) = BitVec.ofNat 16 (truncate opcode payload).length :=
  be16_hi8_lo8 _

/-- From offset 2 to the trailer a frame is its CRC region (R140). -/
theorem encodeFrame_getElem?_core {k : Nat} (hk : k < (truncate opcode payload).length + 3) :
    (encodeFrame opcode payload)[k + 2]? = (framedCore opcode payload)[k]? :=
  List.getElem?_append_left hk

theorem encodeFrame_getElem?_crcHi :
    (encodeFrame opcode payload)[(truncate opcode payload).length + 5]? =
      some (hi8 (crcCompute (framedCore opcode payload))) :=
  (List.getElem?_append_right (Nat.le_refl _)).trans (by simp [length_framedCore])

theorem encodeFrame_getElem?_crcLo :
    (encodeFrame opcode payload)[(truncate opcode payload).length + 6]? =
      some (lo8 (crcCompute (framedCore opcode payload))) :=
  (List.getElem?_append_right (Nat.le_succ _)).trans (by simp [length_framedCore])

end Frame

/-- Settles O12: the deframer's fields of a frame are what the framer wrote there. -/
theorem encodedFrameLayout : Obligations.EncodedFrameLayout := by
  intro opcode payload hp
  refine ⟨rfl, ?_, length_encodeFrame opcode payload, ?_⟩
  · rw [lengthField_encodeFrame, toNat_txLen_of_framable hp, length_encodeFrame, Nat.add_sub_cancel]
  · rw [crcRegion_encodeFrame, trailer_encodeFrame]

/-- Settles O13: a frame depends on its payload through the truncation alone. -/
theorem truncationKeepsTheFirst1024 : Obligations.TruncationKeepsTheFirst1024 := by
  refine ⟨fun payload hlong => ?_, fun payload hshort => truncate_of_le hshort _,
    fun opcode payload hop => truncate_of_ne hop payload, fun opcode payload s t ht => ?_⟩
  · have hcut := truncate_spi_of_gt hlong
    have hagain : truncate 0x01#8 (payload.take 1024) = payload.take 1024 :=
      truncate_of_le (List.length_take_le _ _) _
    refine ⟨hcut, ?_, by rw [encodeFrame, encodeFrame, hcut, hagain]⟩
    rw [length_encodeFrame, hcut, List.length_take_of_le (Nat.le_of_lt hlong)]
  · obtain ⟨-, -, rfl⟩ := encodeOp_next.mp ht
    exact ⟨rfl, by rw [sendWhole_trunc, truncFlag_eq_decide, decide_eq_true_eq]⟩

/-- Settles O19: the CRC region of a frame is its opcode, two length bytes, and the truncated payload. -/
theorem encodeIsInjective : Obligations.EncodeIsInjective := by
  refine ⟨fun opcode payload _ => ⟨?_, rfl⟩, fun op₁ op₂ p₁ p₂ _ _ hframe => ?_⟩
  · rw [length_encodeFrame, length_truncate]
  · have hcore : framedCore op₁ p₁ = framedCore op₂ p₂ := by
      rw [← crcRegion_encodeFrame, ← crcRegion_encodeFrame, hframe]
    injection hcore with hop hrest
    injection hrest with _ hrest
    injection hrest with _ hpayload
    exact ⟨hop, hpayload⟩

/-! ### What `ENCODE` and `TX_START` answer (R142, R144) -/

section Answers
variable {opcode : Byte} {payload : List Byte} {s : State}

theorem exec_encode_of_idle (h : Idle s) (hp : payload.length ≤ 65535) :
    exec (.encode opcode payload) s = .next (sendWhole s opcode payload) :=
  encodeOp_next.mpr ⟨busy_eq_false_of_idle h, hp, rfl⟩

theorem exec_txStart_of_idle (h : Idle s) (hp : payload.length ≤ 65535) :
    exec (.txStart opcode payload) s = .next (sendStart s opcode payload) :=
  startOp_next.mpr ⟨busy_eq_false_of_idle h, hp, rfl⟩

/-- An idle framer refuses a payload that the length field cannot count. -/
theorem whenFramable_of_long (h : Idle s) (hp : 65535 < payload.length) (t : State) :
    whenFramable s payload t = .refused .payloadTooLong :=
  (whenIdle_of_idle (busy_eq_false_of_idle h)).trans (if_pos hp)

end Answers

/-- Settles O14. -/
theorem encodeSendsTheWholeFrame : Obligations.EncodeSendsTheWholeFrame := by
  refine ⟨rfl, fun opcode payload s h hp => ?_,
    fun _ _ s h => whenIdle_of_busy (busy_eq_true_of_not_idle h),
    fun _ _ s h hp => whenFramable_of_long h hp _,
    fun s h => ⟨_, exec_encode_of_idle h (by decide), rfl, rfl, rfl, rfl, rfl, rfl⟩⟩
  rw [exec_encode_of_idle h hp, ← truncFlag_eq_decide]
  rfl

/-- Settles O15. -/
theorem txStartLoadsTheFrame : Obligations.TxStartLoadsTheFrame := by
  refine ⟨rfl, fun opcode payload s h hp => ?_,
    fun _ _ s h => whenIdle_of_busy (busy_eq_true_of_not_idle h),
    fun _ _ s h hp => whenFramable_of_long h hp _⟩
  rw [exec_txStart_of_idle h hp, ← truncFlag_eq_decide]
  rfl

/-! ### One `TX_STEP` (R143, R145) -/

/-- While sending, `TX_STEP` emits the byte that `TX_IDX` selects. -/
theorem exec_txStep_of_sending {s : State} {b : Byte} (hb : s.txBusy = true) (hbyte : txByte s = some b) :
    exec .txStep s = .next (sendByte s b) :=
  stepOp_next.mpr ⟨hb, b, hbyte, rfl⟩

/-- The case table of R145, with `v` the payload byte where `TX_IDX` is a payload index. -/
def selectedByte (s : State) (v : Byte) : Byte :=
  if s.txIdx.toNat = 0 then 0xAB#8
  else if s.txIdx.toNat = 1 then 0xCD#8
  else if s.txIdx.toNat = 2 then s.txOpcode
  else if s.txIdx.toNat = 3 then hi8 s.txLen
  else if s.txIdx.toNat = 4 then lo8 s.txLen
  else if s.txIdx.toNat = s.txLen.toNat + 5 then hi8 s.crc
  else if s.txIdx.toNat = s.txLen.toNat + 6 then lo8 s.crc
  else v

theorem txByte_eq_selectedByte {s : State} {v : Byte} (hin : s.txIdx.toNat < s.txLen.toNat + 7)
    (hv : 5 ≤ s.txIdx.toNat → s.txIdx.toNat ≤ s.txLen.toNat + 4 → readTxbuf s (s.txIdx.toNat - 5) = some v) :
    txByte s = some (selectedByte s v) := by
  unfold txByte txPhase selectedByte
  split_ifs
  case neg => exact hv (by omega) (by omega)
  all_goals rfl

theorem sendByte_eq {s : State} (hb : s.txBusy = true) (hin : s.txIdx.toNat < s.txLen.toNat + 7) (b : Byte) :
    sendByte s b =
      { s with
        crc := if 2 ≤ s.txIdx.toNat ∧ s.txIdx.toNat ≤ s.txLen.toNat + 4 then crcUpdate s.crc b else s.crc
        txout := s.txout ++ [b]
        txIdx := s.txIdx + 1#17
        txBusy := decide (s.txIdx.toNat + 1 ≠ s.txLen.toNat + 7) } := by
  have hfolds : (txPhase s.txIdx.toNat s.txLen.toNat).folds = true ↔
      2 ≤ s.txIdx.toNat ∧ s.txIdx.toNat ≤ s.txLen.toNat + 4 := by
    rw [txPhase_folds_iff hin]
    omega
  simp only [sendByte, emit, hfolds, hb, State.mk.injEq, true_and, and_true]
  by_cases hend : s.txIdx.toNat + 1 = s.txLen.toNat + 7 <;> simp [hend]

/-! ### The frame under way, byte by byte (R149) -/

/-- The state after `TX_START` and `k` `TX_STEP`s. -/
def sentPrefix (s : State) (opcode : Byte) (payload : List Byte) (k : Nat) : State :=
  emit
    { loadFrame s opcode payload with
      crc := crcCompute ((framedCore opcode payload).take (k - 2))
      txIdx := BitVec.ofNat 17 k
      txBusy := decide (k ≠ (truncate opcode payload).length + 7) }
    ((encodeFrame opcode payload).take k)

section Run
variable {s : State} {opcode : Byte} {payload : List Byte} {k : Nat}

@[simp] theorem sentPrefix_crc :
    (sentPrefix s opcode payload k).crc = crcCompute ((framedCore opcode payload).take (k - 2)) := rfl
@[simp] theorem sentPrefix_txLen :
    (sentPrefix s opcode payload k).txLen = BitVec.ofNat 16 (truncate opcode payload).length := rfl
@[simp] theorem sentPrefix_txIdx : (sentPrefix s opcode payload k).txIdx = BitVec.ofNat 17 k := rfl
@[simp] theorem sentPrefix_txBusy :
    (sentPrefix s opcode payload k).txBusy = decide (k ≠ (truncate opcode payload).length + 7) := rfl
@[simp] theorem sentPrefix_txout :
    (sentPrefix s opcode payload k).txout = s.txout ++ (encodeFrame opcode payload).take k := rfl

/-- Before its first byte the frame is as `TX_START` leaves it. -/
theorem sentPrefix_zero : sentPrefix s opcode payload 0 = sendStart s opcode payload := by
  simp [sentPrefix, emit, sendStart, loadFrame, crcCompute, crcFold]

/-- From the trailer on `CRC` is that of the whole region (R145). -/
theorem take_framedCore_eq_self (hk : (truncate opcode payload).length + 5 ≤ k) :
    (framedCore opcode payload).take (k - 2) = framedCore opcode payload :=
  List.take_of_length_le (by rw [length_framedCore]; omega)

/-- After its last byte the state is the one `ENCODE` leaves. -/
theorem sentPrefix_all :
    sentPrefix s opcode payload ((truncate opcode payload).length + 7) = sendWhole s opcode payload := by
  rw [sentPrefix, take_framedCore_eq_self (by omega), List.take_of_length_le (length_encodeFrame opcode payload).le,
    sendWhole, trailer_encodeFrame]
  simp

theorem toNat_sentPrefix_txIdx (hp : payload.length ≤ 65535) (hk : k ≤ (truncate opcode payload).length + 7) :
    (sentPrefix s opcode payload k).txIdx.toNat = k := by
  have := length_truncate_le opcode payload
  rw [sentPrefix_txIdx, BitVec.toNat_ofNat, Nat.mod_eq_of_lt (by omega)]

theorem toNat_sentPrefix_txLen (hp : payload.length ≤ 65535) :
    (sentPrefix s opcode payload k).txLen.toNat = (truncate opcode payload).length :=
  toNat_txLen_of_framable hp

theorem sentCore_sentPrefix : sentCore (sentPrefix s opcode payload k) = framedCore opcode payload :=
  congrArg (frameCore opcode) (Mem.bytes_ofBytes 0 _)

/-- From the reset state the prefix meets the block's invariant. What `TX_STEP` emits and folds depends on the
transmit registers alone, so this serves the prefix from any state. -/
theorem blockInv_sentPrefix_reset (hp : payload.length ≤ 65535) (hk : k ≤ (truncate opcode payload).length + 7) :
    BlockInv (sentPrefix .reset opcode payload k) := by
  have hidx := toNat_sentPrefix_txIdx (s := .reset) hp hk
  have hlen := toNat_sentPrefix_txLen (s := .reset) (opcode := opcode) (k := k) hp
  exact { reset_blockInv with
    exclusive := .inr rfl
    txbufDefined := hlen.symm ▸ Mem.keys_ofBytes_zero _
    spiBounded := spiBounded_truncate hp
    idxBounded := by rwa [hidx, hlen]
    sendingInside := fun hb => by
      rw [hidx, hlen]
      exact Nat.lt_of_le_of_ne hk (of_decide_eq_true hb)
    sendingCrc := fun _ => by
      rw [hidx, sentCore_sentPrefix, sentPrefix_crc]
    receivingCrc := nofun }

/-- The byte `TX_STEP` emits next is the frame's next byte (R143, R149): the sync, then a byte of the CRC region, then
a byte of `CRC`, which by then covers the whole region. -/
theorem txByte_sentPrefix (hp : payload.length ≤ 65535) (hk : k < (truncate opcode payload).length + 7) :
    txByte (sentPrefix s opcode payload k) = (encodeFrame opcode payload)[k]? := by
  have hinv := blockInv_sentPrefix_reset hp hk.le
  have hidx := toNat_sentPrefix_txIdx (s := .reset) hp hk.le
  have hlen := toNat_sentPrefix_txLen (s := .reset) (opcode := opcode) (k := k) hp
  change txByte (sentPrefix .reset opcode payload k) = _
  match k with
  | 0 | 1 => rfl
  | k + 2 =>
    by_cases hcore : k < (truncate opcode payload).length + 3
    · rw [hinv.txByte_eq_sentCore (by omega) (by omega), hidx, sentCore_sentPrefix, Nat.add_sub_cancel,
        encodeFrame_getElem?_core opcode payload hcore]
    · have hcrc := take_framedCore_eq_self (opcode := opcode) (payload := payload) (k := k + 2) (by omega)
      rw [txByte_eq_selectedByte (v := 0x00#8) (by omega) (by omega), selectedByte, hidx, hlen, sentPrefix_crc, hcrc]
      obtain rfl | rfl :
          k = (truncate opcode payload).length + 3 ∨ k = (truncate opcode payload).length + 4 := by omega
      · rw [encodeFrame_getElem?_crcHi]
        simp
      · rw [encodeFrame_getElem?_crcLo]
        simp

section NextByte
variable (hp : payload.length ≤ 65535) (hk : k < (truncate opcode payload).length + 7) {b : Byte}
include hp hk

theorem sendByte_sentPrefix_crc (hbyte : (encodeFrame opcode payload)[k]? = some b) :
    (sendByte (sentPrefix s opcode payload k) b).crc =
      crcCompute ((framedCore opcode payload).take (k + 1 - 2)) := by
  have hcrc := (blockInv_sentPrefix_reset hp hk.le).sendByte_crc_eq (decide_eq_true hk.ne)
    ((txByte_sentPrefix hp hk).trans hbyte)
  rwa [toNat_sentPrefix_txIdx hp hk.le, sentCore_sentPrefix] at hcrc

theorem sendByte_sentPrefix_txBusy :
    (sendByte (sentPrefix s opcode payload k) b).txBusy = decide (k + 1 ≠ (truncate opcode payload).length + 7) := by
  have hidx := toNat_sentPrefix_txIdx (s := s) hp hk.le
  have hlen := toNat_sentPrefix_txLen (s := s) (opcode := opcode) (k := k) hp
  rw [sendByte_eq (decide_eq_true hk.ne) (by omega), hidx, hlen]

/-- Sending the frame's next byte lengthens the prefix by it. -/
theorem sendByte_sentPrefix (hbyte : (encodeFrame opcode payload)[k]? = some b) :
    sendByte (sentPrefix s opcode payload k) b = sentPrefix s opcode payload (k + 1) := by
  have hout : (encodeFrame opcode payload).take (k + 1) = (encodeFrame opcode payload).take k ++ [b] := by
    rw [List.take_add_one, hbyte, Option.toList_some]
  calc sendByte (sentPrefix s opcode payload k) b
      _ = { sentPrefix s opcode payload (k + 1) with
            crc := (sendByte (sentPrefix s opcode payload k) b).crc
            txIdx := BitVec.ofNat 17 k + BitVec.ofNat 17 1
            txBusy := (sendByte (sentPrefix s opcode payload k) b).txBusy
            txout := s.txout ++ (encodeFrame opcode payload).take k ++ [b] } := rfl
      _ = sentPrefix s opcode payload (k + 1) := by
        rw [sendByte_sentPrefix_crc hp hk hbyte, sendByte_sentPrefix_txBusy hp hk, ← BitVec.ofNat_add,
          List.append_assoc, ← hout]
        rfl

end NextByte

/-- `TX_STEP` lengthens the prefix by one byte. -/
theorem exec_txStep_sentPrefix (hp : payload.length ≤ 65535) (hk : k < (truncate opcode payload).length + 7) :
    exec .txStep (sentPrefix s opcode payload k) = .next (sentPrefix s opcode payload (k + 1)) := by
  have hbyte := List.getElem?_eq_getElem (l := encodeFrame opcode payload) (i := k)
    (by rwa [length_encodeFrame])
  rw [exec_txStep_of_sending (decide_eq_true hk.ne) ((txByte_sentPrefix hp hk).trans hbyte),
    sendByte_sentPrefix hp hk hbyte]

/-- A run of `TX_STEP`s lengthens the prefix by as many bytes. -/
theorem run_txSteps_sentPrefix (hp : payload.length ≤ 65535) (n : Nat)
    (hn : k + n ≤ (truncate opcode payload).length + 7) :
    run (List.replicate n .txStep) (sentPrefix s opcode payload k) = .next (sentPrefix s opcode payload (k + n)) := by
  induction n generalizing k with
  | zero => rfl
  | succ n ih =>
    rw [List.replicate_succ, run_cons, exec_txStep_sentPrefix hp (by omega), andThen_of_next, ih (by omega),
      Nat.add_right_comm, Nat.add_assoc]

/-- The run of `TX_START` and `k` `TX_STEP`s, up to the frame's end. -/
theorem run_txStart_txSteps (h : Idle s) (hp : payload.length ≤ 65535)
    (hk : k ≤ (truncate opcode payload).length + 7) :
    run (.txStart opcode payload :: List.replicate k .txStep) s = .next (sentPrefix s opcode payload k) := by
  rw [run_cons, exec_txStart_of_idle h hp, andThen_of_next, ← sentPrefix_zero,
    run_txSteps_sentPrefix hp k (by omega), Nat.zero_add]

end Run

/-- Settles O16: one step by the case table, the runs by the state that each prefix of the frame leaves. -/
theorem txStepEmitsOneByte : Obligations.TxStepEmitsOneByte := by
  refine ⟨rfl, fun s v hb hin hv b hbyte => ?_, fun s hb => stepOp_refused hb, fun opcode payload s h hp => ?_,
    fun s k h hk => ?_⟩
  · have hsel : txByte s = some b := (txByte_eq_selectedByte hin hv).trans (congrArg some hbyte.symm)
    rw [exec_txStep_of_sending hb hsel, sendByte_eq hb hin]
  · refine ⟨_, run_txStart_txSteps h hp (by omega), by simp, ?_, ?_⟩
    · rw [toNat_sentPrefix_txIdx hp (by omega), toNat_sentPrefix_txLen hp]
    · rw [sentPrefix_crc, take_framedCore_eq_self (Nat.le_refl _)]
      rfl
  · refine ⟨_, run_txStart_txSteps h (by decide) hk, rfl, ?_, rfl, rfl⟩
    have hcrcs : ∀ k < 9, crcCompute ((framedCore 0x02#8 [0x01#8]).take (k - 2)) =
        [0xFFFF#16, 0xFFFF#16, 0xFFFF#16, 0xC1B2#16, 0x7B6D#16, 0xB2DD#16, 0x4AB8#16, 0x4AB8#16,
          0x4AB8#16].getD k 0x0000#16 := by decide
    exact hcrcs k (Nat.lt_succ_of_le hk)

/-- Settles O18: the prefix with all of the frame's bytes is what `ENCODE` leaves. -/
theorem txRunEqualsEncode : Obligations.TxRunEqualsEncode := by
  intro opcode payload s hp h
  refine ⟨sendWhole s opcode payload, ?_, exec_encode_of_idle h hp, rfl⟩
  rw [run_txStart_txSteps h hp (Nat.le_refl _), sentPrefix_all]

end Sys2Proof.Machine
end

section
/-! SUPPORT. The family of the deframer's function: the CRC step loses nothing, so a residue tells any changed byte;
the checks and fields of a buffer, the sync field aside, and the buffers that the framer builds
(spec/42_deframer.md R160 to R167, R177, R178). -/

namespace Sys2Proof.Machine

/-! ### The step of the CRC loses nothing (R121, R128) -/

/-- Eight rounds shift a byte from the low half to the high half: no round has a bit to fold back. -/
theorem iterate_tableRound_low : ∀ l : Byte, tableRound^[8] (be16 0x00#8 l) = be16 l 0x00#8 := by
  decide +kernel

theorem shiftLeft_eight_eq (seed : Word) : seed <<< 8 = be16 (lo8 seed) 0x00#8 := by
  have hlow : lo8 (seed <<< 8) = 0x00#8 := by
    ext i hi
    simp [lo8, Nat.lt_of_lt_of_le hi (by decide : 8 ≤ 16), hi]
  rw [← be16_hi8_lo8 (seed <<< 8), hi8_shiftLeft, hlow]

/-- The step is the byte added to the high half, and eight rounds (R120, R121). -/
theorem crcUpdate_eq_iterate (seed : Word) (b : Byte) :
    crcUpdate seed b = tableRound^[8] (seed ^^^ be16 b 0x00#8) := by
  have hsplit : seed ^^^ be16 b 0x00#8 = be16 (hi8 seed ^^^ b) 0x00#8 ^^^ be16 0x00#8 (lo8 seed) := by
    rw [← be16_xor]
    conv_lhs => rw [← be16_hi8_lo8 seed, ← be16_xor]
    simp
  rw [hsplit, iterate_tableRound_xor, iterate_tableRound_low, ← tableFormula_eq_iterate, ← tableEntry_eq_formula,
    ← shiftLeft_eight_eq, crcUpdate]

/-- Steps from two seeds by one byte agree only if the seeds do. -/
theorem crcUpdate_left_injective (b : Byte) : Function.Injective fun seed => crcUpdate seed b := by
  intro x y h
  simp only [crcUpdate_eq_iterate] at h
  exact (BitVec.xor_left_inj _).mp (tableRound_injective.iterate 8 h)

/-- Steps from one seed by two bytes agree only if the bytes do. -/
theorem crcUpdate_right_injective (seed : Word) : Function.Injective (crcUpdate seed) := by
  intro b c h
  rw [crcUpdate_eq_iterate, crcUpdate_eq_iterate] at h
  have hword := (BitVec.xor_right_inj _).mp (tableRound_injective.iterate 8 h)
  rw [← hi8_be16 b 0x00#8, hword, hi8_be16]

theorem crcFold_injective (buf : List Byte) : Function.Injective fun seed => crcFold seed buf := by
  induction buf with
  | nil => exact fun _ _ h => h
  | cons b rest ih => exact ih.comp (crcUpdate_left_injective b)

/-- Replacing one byte of a buffer changes its CRC, unless the byte is the one that was there (R178). -/
theorem eq_getElem_of_crcFold_set {buf : List Byte} {k : Nat} (hk : k < buf.length) {seed : Word} {v : Byte}
    (h : crcFold seed (buf.set k v) = crcFold seed buf) : v = buf[k] := by
  induction buf generalizing k seed with
  | nil => exact absurd hk (Nat.not_lt_zero k)
  | cons b rest ih =>
    cases k with
    | zero => exact crcUpdate_right_injective seed (crcFold_injective rest h)
    | succ k => exact ih (Nat.lt_of_succ_lt_succ hk) h

/-- A CRC and the two bytes after its region fold to zero exactly when the bytes are the CRC (R128 (d)). -/
theorem crcFold_pair_eq_zero_iff {c : Word} {h l : Byte} : crcFold c [h, l] = 0x0000#16 ↔ c = be16 h l := by
  have hself : crcFold (be16 h l) [h, l] = 0x0000#16 := by
    simpa only [hi8_be16, lo8_be16] using crcFold_hi8_lo8 (be16 h l)
  rw [← hself]
  exact (crcFold_injective [h, l]).eq_iff

/-- Bytes 0x00 keep a CRC of zero (R178). -/
theorem crcFold_zeros (k : Nat) : crcFold 0x0000#16 (List.replicate k 0x00#8) = 0x0000#16 := by
  induction k with
  | zero => rfl
  | succ k ih => exact ih

/-! ### The checks (R160 to R165) -/

theorem getElem_eq_byteAt {buf : List Byte} {i : Nat} (h : i < buf.length) : buf[i] = byteAt buf i :=
  Option.some.inj ((List.getElem?_eq_getElem h).symm.trans (getElem?_eq_byteAt h))

/-- After the sync field a buffer is its CRC region and its trailer (R162, R163). -/
theorem drop_two_eq_crcRegion_append {buf : List Byte} (hn : 4 ≤ buf.length) :
    buf.drop 2 = crcRegion buf ++ [byteAt buf (buf.length - 2), byteAt buf (buf.length - 1)] := by
  have hlast : buf.drop (buf.length - 2) = [byteAt buf (buf.length - 2), byteAt buf (buf.length - 1)] := by
    have hsucc : buf.length - 2 + 1 = buf.length - 1 := by omega
    rw [List.drop_eq_getElem_cons (by omega), List.drop_eq_getElem_cons (by omega), List.drop_of_length_le (by omega)]
    simp only [hsucc, getElem_eq_byteAt]
  have hsplit := (List.take_append_drop (buf.length - 2 - 2) (buf.drop 2)).symm
  rwa [List.drop_drop, show 2 + (buf.length - 2 - 2) = buf.length - 2 by omega, hlast] at hsplit

/-- The CRC check compares, and could as well ask for a CRC of zero over region and trailer (R128 (d), R163). -/
theorem crc_eq_trailer_iff {buf : List Byte} (hn : 4 ≤ buf.length) :
    crcCompute (crcRegion buf) = trailer buf ↔ crcCompute (buf.drop 2) = 0x0000#16 := by
  rw [drop_two_eq_crcRegion_append hn, crcCompute, crcCompute, crcFold_append, crcFold_pair_eq_zero_iff, trailer]

section Checks
variable {buf : List Byte} {expect : Byte}

/-- The three checks in their order, and the payload (R160, R165). -/
theorem decodeAndValidate_eq :
    decodeAndValidate buf expect =
      if buf.length < 7 then .error .frameTooShort
      else if crcCompute (crcRegion buf) ≠ trailer buf then .error .checksumMismatch
      else if byteAt buf 2 ≠ expect then .error .opcodeMismatch
      else .ok (deliveredPayload buf) := by
  unfold decodeAndValidate firstFailure Config.minFrame
  split_ifs <;> rfl

theorem decodeAndValidate_short (hn : buf.length < 7) : decodeAndValidate buf expect = .error .frameTooShort := by
  rw [decodeAndValidate_eq, if_pos hn]

theorem decodeAndValidate_mismatch (hn : 7 ≤ buf.length) (hcrc : crcCompute (crcRegion buf) ≠ trailer buf) :
    decodeAndValidate buf expect = .error .checksumMismatch := by
  rw [decodeAndValidate_eq, if_neg (Nat.not_lt.mpr hn), if_pos hcrc]

theorem decodeAndValidate_valid (hn : 7 ≤ buf.length) (hcrc : crcCompute (crcRegion buf) = trailer buf)
    (hop : byteAt buf 2 = expect) : decodeAndValidate buf expect = .ok (deliveredPayload buf) := by
  rw [decodeAndValidate_eq, if_neg (Nat.not_lt.mpr hn), if_neg (not_not.mpr hcrc), if_neg (not_not.mpr hop)]

/-- A payload is delivered from a buffer of at least seven bytes, as the length field says (R167). -/
theorem deliveredPayload_of_ok {p : List Byte} (hok : decodeAndValidate buf expect = .ok p) :
    7 ≤ buf.length ∧ deliveredPayload buf = p := by
  rw [decodeAndValidate_eq] at hok
  split_ifs at hok with hn
  exact ⟨Nat.not_lt.mp hn, Except.ok.inj hok⟩

theorem deliveredPayload_eq :
    deliveredPayload buf = (buf.drop 5).take (min (lengthField buf).toNat (buf.length - 7)) := by
  rw [deliveredPayload, slice, Nat.add_sub_cancel_left, Config.minFrame]

theorem crcRegion_eq : crcRegion buf = (buf.drop 2).take (buf.length - 4) := by
  rw [crcRegion, slice, Nat.sub_sub]

end Checks

/-- Settles O20: the fields written out. -/
theorem decodeAndValidateInOrder : Obligations.DecodeAndValidateInOrder := by
  intro buf expect
  rw [decodeAndValidate_eq, crcRegion_eq, deliveredPayload_eq]
  rfl

/-! ### The flags of a buffer (R33, R34) -/

theorem syncFlag_eq_decide (buf : List Byte) :
    syncFlag buf = decide (2 ≤ buf.length ∧ byteAt buf 0 = 0xAB#8 ∧ byteAt buf 1 = 0xCD#8) := by
  simp only [syncFlag, beq_eq_decide, Bool.decide_and]

theorem lenFlag_eq_decide (buf : List Byte) :
    lenFlag buf = decide (7 ≤ buf.length ∧ (lengthField buf).toNat = buf.length - 7) := by
  simp only [lenFlag, beq_eq_decide, Bool.decide_and]

/-! ### The sync field (R166) -/

theorem byteAt_of_two_le (a b : Byte) (rest : List Byte) {i : Nat} (hi : 2 ≤ i) :
    byteAt (a :: b :: rest) i = byteAt rest (i - 2) := by
  obtain ⟨k, rfl⟩ := Nat.exists_eq_add_of_le' hi
  rfl

/-- The trailer of a buffer with a CRC region is not in the sync field. -/
theorem trailer_cons_cons (a b : Byte) {rest : List Byte} (hn : 2 ≤ rest.length) :
    trailer (a :: b :: rest) = trailer rest := by
  simp only [trailer, List.length_cons]
  rw [byteAt_of_two_le a b rest (by omega), byteAt_of_two_le a b rest (by omega)]
  rfl

/-- Every field the checks read lies after the sync field. -/
theorem decodeAndValidate_sync (a b a' b' : Byte) (rest : List Byte) (expect : Byte) :
    decodeAndValidate (a :: b :: rest) expect = decodeAndValidate (a' :: b' :: rest) expect := by
  by_cases hn : rest.length < 5
  · have hshort (x y : Byte) : (x :: y :: rest).length < 7 := Nat.add_lt_add_right hn 2
    rw [decodeAndValidate_short (hshort a b), decodeAndValidate_short (hshort a' b')]
  · rw [decodeAndValidate_eq, decodeAndValidate_eq, trailer_cons_cons a b (by omega),
      trailer_cons_cons a' b' (by omega)]
    rfl

theorem syncFlag_cons_cons (a b : Byte) (rest : List Byte) :
    syncFlag (a :: b :: rest) = true ↔ a = 0xAB#8 ∧ b = 0xCD#8 := by
  simp [syncFlag_eq_decide, byteAt]

/-- Settles O21. -/
theorem syncBytesAreIgnored : Obligations.SyncBytesAreIgnored :=
  ⟨fun a b a' b' rest expect => ⟨decodeAndValidate_sync a b a' b' rest expect, rfl⟩, syncFlag_cons_cons⟩

/-! ### Frames of the framer (R177, R178) -/

/-- The residue of a frame is zero (R128 (d)). -/
theorem crcCompute_drop_encodeFrame (opcode : Byte) (payload : List Byte) :
    crcCompute ((encodeFrame opcode payload).drop 2) = 0x0000#16 := by
  rw [← crc_eq_trailer_iff (by rw [length_encodeFrame]; omega), crcRegion_encodeFrame, trailer_encodeFrame]

section Frames
variable (opcode : Byte) (payload : List Byte) (hp : payload.length ≤ 65535)
include hp

/-- The length field of a frame counts its payload, whatever comes after the frame (R93). -/
theorem toNat_lengthField_encodeFrame_append (tail : List Byte) :
    (lengthField (encodeFrame opcode payload ++ tail)).toNat = (truncate opcode payload).length := by
  have hfield : lengthField (encodeFrame opcode payload ++ tail) = lengthField (encodeFrame opcode payload) := rfl
  rw [hfield, lengthField_encodeFrame, toNat_txLen_of_framable hp]

/-- `LEN_OK` tells whether anything comes after the frame (R34). -/
theorem lenFlag_encodeFrame_append (tail : List Byte) :
    lenFlag (encodeFrame opcode payload ++ tail) = decide (tail.length = 0) := by
  rw [lenFlag_eq_decide, toNat_lengthField_encodeFrame_append opcode payload hp, List.length_append,
    length_encodeFrame, decide_eq_decide]
  omega

/-- A frame with bytes after it delivers its truncated payload: the length field cuts what follows (R167). -/
theorem deliveredPayload_encodeFrame_append (tail : List Byte) :
    deliveredPayload (encodeFrame opcode payload ++ tail) = truncate opcode payload := by
  rw [deliveredPayload_eq, toNat_lengthField_encodeFrame_append opcode payload hp, List.length_append,
    length_encodeFrame, Nat.min_eq_left (by omega)]
  change List.take _ (truncate opcode payload ++ _ ++ tail) = _
  rw [List.append_assoc, List.take_left]

/-- The bytes after a frame find its residue of zero (R128 (d)), so they alone decide whether the whole validates. -/
theorem decodeAndValidate_encodeFrame_append {tail : List Byte} (htail : crcFold 0x0000#16 tail = 0x0000#16) :
    decodeAndValidate (encodeFrame opcode payload ++ tail) opcode = .ok (truncate opcode payload) := by
  have hn : 7 ≤ (encodeFrame opcode payload ++ tail).length := by
    rw [List.length_append, length_encodeFrame]
    omega
  have hresidue : crcCompute ((encodeFrame opcode payload ++ tail).drop 2) = 0x0000#16 := by
    rw [List.drop_append_of_le_length (by rw [length_encodeFrame]; omega), crcCompute, crcFold_append, ← crcCompute,
      crcCompute_drop_encodeFrame, htail]
  rw [← deliveredPayload_encodeFrame_append opcode payload hp tail]
  exact decodeAndValidate_valid hn ((crc_eq_trailer_iff (by omega)).mpr hresidue) rfl

theorem decodeAndValidate_encodeFrame :
    decodeAndValidate (encodeFrame opcode payload) opcode = .ok (truncate opcode payload) := by
  have h := decodeAndValidate_encodeFrame_append opcode payload hp (tail := []) rfl
  rwa [List.append_nil] at h

/-- A frame with another sync field decodes all the same, and `SYNC_OK` tells (R166, R178). -/
theorem decodeAndValidate_of_other_sync {a b : Byte} {rest : List Byte}
    (hframe : encodeFrame opcode payload = 0xAB#8 :: 0xCD#8 :: rest) (hab : ¬ (a = 0xAB#8 ∧ b = 0xCD#8)) :
    decodeAndValidate (a :: b :: rest) opcode = .ok (truncate opcode payload) ∧
      syncFlag (a :: b :: rest) = false := by
  refine ⟨?_, Bool.eq_false_iff.mpr (mt (syncFlag_cons_cons a b rest).mp hab)⟩
  rw [decodeAndValidate_sync a b 0xAB#8 0xCD#8 rest, ← hframe, decodeAndValidate_encodeFrame opcode payload hp]

end Frames

/-- Settles O29. -/
theorem frameRoundTrip : Obligations.FrameRoundTrip := by
  intro opcode payload hp
  refine ⟨decodeAndValidate_encodeFrame opcode payload hp, ?_, rfl, fun hshort => ?_⟩
  · have h := lenFlag_encodeFrame_append opcode payload hp []
    rwa [List.append_nil] at h
  · exact hshort.elim (truncate_of_ne · payload) (truncate_of_le · opcode)

/-- Settles O31: bytes 0x00 keep the residue of a frame at zero. -/
theorem appendedZerosStillValidate : Obligations.AppendedZerosStillValidate := by
  intro opcode payload k hp hk
  refine ⟨decodeAndValidate_encodeFrame_append opcode payload hp (crcFold_zeros k), ?_⟩
  rw [lenFlag_encodeFrame_append opcode payload hp, List.length_replicate, decide_eq_false_iff_not]
  omega

/-- Flipping a bit of a byte changes the byte (R178). -/
theorem flipped_ne (b : Byte) {j : Nat} (hj : j < 8) : b ^^^ (1#8 <<< j) ≠ b := by
  have hbit : ∀ j < 8, 1#8 <<< j ≠ 0#8 := by decide
  rw [← BitVec.xor_zero (x := b)]
  simpa using hbit j hj

/-- A flip after the sync field leaves a residue that is not zero (R178). -/
theorem crc_ne_trailer_of_flip {buf : List Byte} {i j : Nat} (hn : 4 ≤ buf.length) (hlo : 2 ≤ i)
    (hhi : i < buf.length) (hj : j < 8) (hcrc : crcCompute (buf.drop 2) = 0x0000#16) :
    crcCompute (crcRegion (flipBit buf i j)) ≠ trailer (flipBit buf i j) := by
  have hlen : (flipBit buf i j).length = buf.length := List.length_set
  rw [Ne, crc_eq_trailer_iff (by omega), ← hcrc]
  intro h
  rw [flipBit, List.drop_set, if_neg (by omega)] at h
  have hsame := eq_getElem_of_crcFold_set (by rw [List.length_drop]; omega) h
  rw [List.getElem_drop, getElem_eq_byteAt, Nat.add_sub_of_le hlo] at hsame
  exact flipped_ne _ hj hsame

/-- Settles O30. -/
theorem singleBitFlipIsDetected : Obligations.SingleBitFlipIsDetected := by
  intro opcode payload i j hp hj
  refine ⟨fun hlo hhi expect => ?_, fun hi => ?_⟩
  · have hlen := length_encodeFrame opcode payload
    refine decodeAndValidate_mismatch ?_ ?_
    · rw [flipBit, List.length_set]
      omega
    · exact crc_ne_trailer_of_flip (by omega) hlo hhi hj (crcCompute_drop_encodeFrame opcode payload)
  · match i, hi with
    | 0, _ => exact decodeAndValidate_of_other_sync opcode payload hp rfl fun h => flipped_ne _ hj h.1
    | 1, _ => exact decodeAndValidate_of_other_sync opcode payload hp rfl fun h => flipped_ne _ hj h.2

end Sys2Proof.Machine
end

section
/-! SUPPORT. The family of the deframer's operations: a reception byte by byte, its end in the state that `DECODE`
leaves, and what each operation answers (spec/42_deframer.md R168 to R176). -/

namespace Sys2Proof.Machine

/-! ### What a held buffer reads as -/

/-- A stretch of a held buffer reads as its bytes (R39). -/
theorem readRxSlice_of_holds {s : State} {buf : List Byte} (h : HoldsBuffer s buf) {a n : Nat}
    (hn : a + n ≤ buf.length) : readRxSlice s a n = some ((buf.drop a).take n) := by
  induction n generalizing a with
  | zero => rfl
  | succ n ih =>
    have ha : a < buf.length := by omega
    rw [readRxSlice, readRxbuf_of_holds h, List.getElem?_eq_getElem ha, ih (by omega),
      List.drop_eq_getElem_cons ha, List.take_succ_cons]

/-- `RX_BYTE` keeps `CRC` that of the received bytes (R169, R171). -/
theorem crcTwoBack_of_holds {s : State} {buf : List Byte} (h : HoldsBuffer s buf) (hcrc : s.crc = receivedCrc buf)
    (b : Byte) : crcTwoBack s = some (receivedCrc (buf ++ [b])) := by
  rw [crcTwoBack_eq_some, receivedCrc_concat, h.2, hcrc]
  by_cases hn : 4 ≤ buf.length
  · exact .inr ⟨hn, _, (readRxbuf_of_holds h _).trans (getElem?_eq_byteAt (by omega)), if_pos hn⟩
  · exact .inl ⟨Nat.not_le.mp hn, if_neg hn⟩

theorem receivedCrc_eq (buf : List Byte) :
    receivedCrc buf = if 4 ≤ buf.length then crcCompute ((buf.drop 2).take (buf.length - 4)) else 0xFFFF#16 := by
  rw [receivedCrc, crcRegion_eq]
  rfl

/-! ### A buffer received byte by byte, and decoded -/

/-- The state after `RX_START` and one `RX_BYTE` for each byte of `buf` (R170, R171). -/
def receivedSoFar (s : State) (expect : Byte) (buf : List Byte) : State :=
  { loadBuffer (clearVerdict s) expect buf with rxBusy := true }

/-- The state `DECODE` leaves (R168). -/
def decoded (s : State) (expect : Byte) (buf : List Byte) : State :=
  reportVerdict (loadBuffer s expect buf) (syncFlag buf) (lenFlag buf) (verdictOf (decodeAndValidate buf expect))

/-- `RX_N` counts every byte of a buffer that fits `RXBUF` (R27). -/
theorem toNat_rxN_of_fits {buf : List Byte} (hlen : buf.length ≤ 65542) :
    (BitVec.ofNat 17 buf.length).toNat = buf.length := by
  rw [BitVec.toNat_ofNat, Nat.mod_eq_of_lt (by omega)]

section Received
variable {s : State} {expect : Byte} {buf : List Byte}

@[simp] theorem receivedSoFar_crc : (receivedSoFar s expect buf).crc = receivedCrc buf := rfl
@[simp] theorem receivedSoFar_rxExpect : (receivedSoFar s expect buf).rxExpect = expect := rfl
@[simp] theorem receivedSoFar_rxN : (receivedSoFar s expect buf).rxN = BitVec.ofNat 17 buf.length := rfl

theorem receivedSoFar_nil : receivedSoFar s expect [] = receiveStart s expect := rfl

theorem decoded_err : (decoded s expect buf).err = verdictErr (verdictOf (decodeAndValidate buf expect)) := rfl
theorem decoded_rxPlen : (decoded s expect buf).rxPlen = verdictLen (verdictOf (decodeAndValidate buf expect)) := rfl

/-! ### Every operation of the deframer, as `exec` runs it -/

theorem exec_rxByte (b : Byte) (s : State) : exec (.rxByte b) s = rxByteOp b s := rfl

theorem exec_rxEnd (s : State) : exec .rxEnd s = rxEndOp s := rfl

theorem exec_decode_of_idle (h : Idle s) (hlen : buf.length ≤ 65542) :
    exec (.decode expect buf) s = .next (decoded s expect buf) :=
  decodeOp_next.mpr ⟨busy_eq_false_of_idle h, hlen, rfl⟩

theorem exec_rxStart_of_idle (h : Idle s) : exec (.rxStart expect) s = .next (receiveStart s expect) :=
  whenIdle_of_idle (busy_eq_false_of_idle h)

theorem exec_rxAbort_of_not_sending (htx : s.txBusy = false) :
    exec .rxAbort s = .next { clearVerdict s with rxBusy := false } := abortOp_next.mpr ⟨htx, rfl⟩

/-! ### The run of a reception -/

theorem receivedSoFar_holds (hlen : buf.length ≤ 65542) : HoldsBuffer (receivedSoFar s expect buf) buf :=
  ⟨rfl, toNat_rxN_of_fits hlen⟩

theorem decoded_holds (hlen : buf.length ≤ 65542) : HoldsBuffer (decoded s expect buf) buf :=
  ⟨rfl, toNat_rxN_of_fits hlen⟩

theorem receiveByte_receivedSoFar (hlen : buf.length < 65542) (b : Byte) :
    receiveByte (receivedSoFar s expect buf) b (receivedCrc (buf ++ [b])) =
      receivedSoFar s expect (buf ++ [b]) := by
  have hcount : BitVec.ofNat 17 buf.length + 1#17 = BitVec.ofNat 17 (buf ++ [b]).length := by
    rw [List.length_append, List.length_singleton, BitVec.ofNat_add]
  have hmem : (Mem.ofBytes 0 buf).write (BitVec.ofNat 17 buf.length).toNat b = Mem.ofBytes 0 (buf ++ [b]) := by
    rw [toNat_rxN_of_fits hlen.le]
    simpa using Mem.write_ofBytes_end 0 buf b
  calc receiveByte (receivedSoFar s expect buf) b (receivedCrc (buf ++ [b]))
      _ = { receivedSoFar s expect (buf ++ [b]) with
            rxbuf := (Mem.ofBytes 0 buf).write (BitVec.ofNat 17 buf.length).toNat b
            rxN := BitVec.ofNat 17 buf.length + 1#17 } := rfl
      _ = receivedSoFar s expect (buf ++ [b]) := by
        rw [hcount, hmem]
        rfl

/-- `RX_BYTE` lengthens the received buffer by one byte. -/
theorem rxByteOp_receivedSoFar (hlen : buf.length < 65542) (b : Byte) :
    rxByteOp b (receivedSoFar s expect buf) = .next (receivedSoFar s expect (buf ++ [b])) := by
  have h := receivedSoFar_holds (s := s) (expect := expect) hlen.le
  exact rxByteOp_next.mpr ⟨rfl, h.2.symm ▸ hlen, _, crcTwoBack_of_holds h rfl b, receiveByte_receivedSoFar hlen b⟩

/-- A run of `RX_BYTE`s lengthens the received buffer by as many bytes. -/
theorem run_rxBytes_receivedSoFar (more : List Byte) (hlen : (buf ++ more).length ≤ 65542) :
    run (more.map .rxByte) (receivedSoFar s expect buf) = .next (receivedSoFar s expect (buf ++ more)) := by
  induction more generalizing buf with
  | nil => rw [List.append_nil, List.map_nil, run_nil]
  | cons b more ih =>
    have hlt : buf.length < 65542 := by
      rw [List.length_append, List.length_cons] at hlen
      omega
    rw [List.append_cons] at hlen ⊢
    rw [List.map_cons, run_cons, exec_rxByte, rxByteOp_receivedSoFar hlt, andThen_of_next, ih hlen]

/-- The run of `RX_START` and one `RX_BYTE` per byte, up to what fits `RXBUF`. -/
theorem run_rxStart_rxBytes (h : Idle s) (hlen : buf.length ≤ 65542) :
    run (.rxStart expect :: buf.map .rxByte) s = .next (receivedSoFar s expect buf) := by
  rw [run_cons, exec_rxStart_of_idle h, andThen_of_next, ← receivedSoFar_nil]
  exact run_rxBytes_receivedSoFar buf hlen

/-! ### `RX_END` on the received buffer (R172, R176) -/

/-- A report overwrites whatever the reception left of the previous verdict. -/
theorem reportVerdict_receivedSoFar (syncOk lenOk : Bool) (v : Except ErrorKind Nat) :
    reportVerdict (receivedSoFar s expect buf) syncOk lenOk v =
      reportVerdict (loadBuffer s expect buf) syncOk lenOk v := rfl

theorem endVerdict_receivedSoFar (hn : 7 ≤ buf.length) (hlen : buf.length ≤ 65542) :
    endVerdict (receivedSoFar s expect buf) (lengthField buf) (trailer buf) (byteAt buf 2) =
      verdictOf (decodeAndValidate buf expect) := by
  have hcrc : receivedCrc buf = crcCompute (crcRegion buf) := if_pos (by omega)
  rw [decodeAndValidate_eq, if_neg (Nat.not_lt.mpr hn), endVerdict, receivedSoFar_crc, receivedSoFar_rxExpect,
    receivedSoFar_rxN, toNat_rxN_of_fits hlen, hcrc, Config.minFrame, ← length_deliveredPayload hn]
  split_ifs <;> rfl

/-- `RX_END` ends in the state that `DECODE` of the received buffer leaves. -/
theorem rxEndOp_receivedSoFar (hlen : buf.length ≤ 65542) :
    rxEndOp (receivedSoFar s expect buf) = .next (decoded s expect buf) := by
  have h := receivedSoFar_holds (s := s) (expect := expect) hlen
  by_cases hn : 7 ≤ buf.length
  · have hl : rxLenView (receivedSoFar s expect buf) = some (lengthField buf) := by
      rw [rxLenView_of_holds h, if_pos (by omega)]
    have ho : rxOpcodeView (receivedSoFar s expect buf) = some (byteAt buf 2) := by
      rw [rxOpcodeView_of_holds h, if_pos (by omega)]
    have hflag : lenFlag buf = ((lengthField buf).toNat == buf.length - 7) := by simp [lenFlag, hn]
    rw [rxEndOp_long rfl (h.2.symm ▸ hn) hl (rxTrailer_of_holds h (by omega)) ho, endVerdict_receivedSoFar hn hlen,
      rxSyncFlag_of_holds h, h.2, ← hflag, reportVerdict_receivedSoFar, decoded]
  · have hflag : lenFlag buf = false := by simp [lenFlag, hn]
    rw [rxEndOp_short rfl (h.2.symm ▸ Nat.not_le.mp hn), rxSyncFlag_of_holds h, reportVerdict_receivedSoFar, decoded,
      hflag, decodeAndValidate_short (Nat.not_le.mp hn)]
    rfl

theorem run_rxStart_rxBytes_rxEnd (h : Idle s) (hlen : buf.length ≤ 65542) :
    run (.rxStart expect :: (buf.map .rxByte ++ [.rxEnd])) s = .next (decoded s expect buf) := by
  rw [← List.cons_append, run_append, run_rxStart_rxBytes h hlen, andThen_of_next, run_cons,
    exec_rxEnd, rxEndOp_receivedSoFar hlen, andThen_of_next, run_nil]

/-- `RX_PLEN` counts the delivered payload, which the length field keeps below 65536 (R28). -/
theorem toNat_decoded_rxPlen_of_ok {p : List Byte} (hok : decodeAndValidate buf expect = .ok p) :
    (decoded s expect buf).rxPlen.toNat = min (lengthField buf).toNat (buf.length - 7) := by
  obtain ⟨hn, rfl⟩ := deliveredPayload_of_ok hok
  have hfield := (lengthField buf).isLt
  rw [decoded_rxPlen, hok, verdictOf, verdictLen, length_deliveredPayload hn, BitVec.toNat_ofNat,
    Nat.mod_eq_of_lt (by omega)]

/-- The delivered payload is where `RX_PLEN` says (R28, R168). -/
theorem deliveredBytes_decoded (hlen : buf.length ≤ 65542) {p : List Byte}
    (hok : decodeAndValidate buf expect = .ok p) : deliveredBytes (decoded s expect buf) = some p := by
  have hplen := toNat_decoded_rxPlen_of_ok (s := s) hok
  obtain ⟨hn, rfl⟩ := deliveredPayload_of_ok hok
  rw [deliveredBytes, readRxSlice_of_holds (decoded_holds hlen) (by omega), hplen, ← deliveredPayload_eq]

end Received

/-- Settles O28: both ways end in the one decoded state, whose verdict is the function's. -/
theorem rxRunEqualsDecode : Obligations.RxRunEqualsDecode := by
  intro expect buf s hlen h
  refine ⟨decoded s expect buf, run_rxStart_rxBytes_rxEnd h hlen, exec_decode_of_idle h hlen, fun k hk => ?_,
    fun p hp => ⟨?_, deliveredBytes_decoded hlen hp⟩⟩
  · rw [decoded_err, decoded_rxPlen, hk]
    exact ⟨rfl, rfl⟩
  · rw [decoded_err, hp]
    rfl

/-! ### What the operations answer -/

/-- Settles O23. -/
theorem rxStartBeginsEmpty : Obligations.RxStartBeginsEmpty := by
  refine ⟨rfl, fun expect s h => exec_rxStart_of_idle h,
    fun _ s h => whenIdle_of_busy (busy_eq_true_of_not_idle h), fun expect s t ht => ?_⟩
  obtain ⟨hi, rfl⟩ := rxStartOp_next.mp ht
  refine ⟨fun a => readRxbuf_of_holds (buf := []) ⟨rfl, rfl⟩ a, ?_⟩
  have hbusy : (receiveStart s expect).busy = true := (State.busy_eq_true _).mpr (.inr rfl)
  rw [statusReg, hbusy]
  cases htrunc : s.trunc
  all_goals simp [htrunc, flagBit]

/-- `LED [01]` as a frame, the example of R168, R171 and R172 (R193). -/
def ledOnFrame : List Byte := [0xAB#8, 0xCD#8, 0x02#8, 0x00#8, 0x01#8, 0x01#8, 0x4A#8, 0xB8#8]

/-- Settles O24. -/
theorem rxByteStoresAndFolds : Obligations.RxByteStoresAndFolds := by
  refine ⟨rfl, fun b s hb hn => ?_, fun b v s hb hlo hhi hv => ?_, fun b s hb => rxByteOp_refused hb b,
    fun b s hb hn => ?_, fun expect buf s h hlen => ?_, fun s k h hk => ?_⟩
  · exact rxByteOp_next.mpr ⟨hb, by omega, s.crc, crcTwoBack_eq_some.mpr (.inl ⟨hn, rfl⟩), rfl⟩
  · exact rxByteOp_next.mpr ⟨hb, hhi, _, crcTwoBack_eq_some.mpr (.inr ⟨hlo, v, hv, rfl⟩), rfl⟩
  · have hfull : Config.rxMax ≤ s.rxN.toNat := by rw [hn]; decide
    exact (if_neg (by simp [hb])).trans (if_pos hfull)
  · exact ⟨_, run_rxStart_rxBytes h hlen, rfl, rfl, receivedCrc_eq buf⟩
  · refine ⟨_, run_rxStart_rxBytes (buf := ledOnFrame.take k) h ((List.length_take_le' _ _).trans (by decide)), ?_⟩
    have hcrcs : ∀ k < 9, receivedCrc (ledOnFrame.take k) =
        [0xFFFF#16, 0xFFFF#16, 0xFFFF#16, 0xFFFF#16, 0xFFFF#16, 0xC1B2#16, 0x7B6D#16, 0xB2DD#16,
          0x4AB8#16].getD k 0x0000#16 := by decide
    exact hcrcs k (Nat.lt_succ_of_le hk)

/-- Settles O27. -/
theorem rxAbortDiscardsTheBuffer : Obligations.RxAbortDiscardsTheBuffer := by
  refine ⟨rfl, fun s htx => exec_rxAbort_of_not_sending htx, fun s htx => abortOp_refused htx, fun s h =>
    ⟨{ clearVerdict (receivedSoFar s 0x00#8 [0xAB#8, 0xCD#8]) with rxBusy := false }, ?_, rfl, rfl, rfl, rfl⟩⟩
  calc run (.rxStart 0x00#8 :: [0xAB#8, 0xCD#8].map .rxByte ++ [.rxAbort]) s
      _ = run [.rxAbort] (receivedSoFar s 0x00#8 [0xAB#8, 0xCD#8]) := by
        rw [run_append, run_rxStart_rxBytes h (by decide), andThen_of_next]
      _ = _ := by rw [run_cons, exec_rxAbort_of_not_sending (s := receivedSoFar _ _ _) h.1, andThen_of_next, run_nil]

theorem rxSyncFlag_eq_decide (s : State) :
    rxSyncFlag s = decide (2 ≤ s.rxN.toNat ∧ readRxbuf s 0 = some 0xAB#8 ∧ readRxbuf s 1 = some 0xCD#8) := by
  simp only [rxSyncFlag, beq_eq_decide, Bool.decide_and]

/-- Settles O26. -/
theorem rxEndReportsTheVerdict : Obligations.RxEndReportsTheVerdict := by
  refine ⟨rfl, fun s hb hn => ⟨_, rxEndOp_short hb hn, ?_⟩, fun s len rxCrc opcode hb hn hl hc ho =>
    ⟨_, rxEndOp_long hb hn hl hc ho, ?_⟩, fun s hb => rxEndOp_refused hb, fun s h htrunc => ?_⟩
  · rw [rxSyncFlag_eq_decide]
    rfl
  · rw [rxSyncFlag_eq_decide, endVerdict]
    split_ifs <;> rfl
  · refine ⟨_, run_rxStart_rxBytes_rxEnd (buf := ledOnFrame) h (by decide), rfl, rfl, ?_⟩
    have hbusy : (decoded s 0x02#8 ledOnFrame).busy = false := busy_eq_false_of_idle ⟨h.1, rfl⟩
    have hkept : (decoded s 0x02#8 ledOnFrame).trunc = false := htrunc
    rw [statusReg, hbusy, hkept]
    change flagBit false ++ (flagBit true ++ (flagBit true ++ (flagBit true ++ (flagBit false ++ 0#3)))) = 0x70#8
    decide

/-- Settles O22. -/
theorem decodeRecordsTheVerdict : Obligations.DecodeRecordsTheVerdict := by
  refine ⟨rfl, fun expect buf s h hlen => ⟨_, exec_decode_of_idle h hlen, ?_⟩, fun expect buf => ?_,
    fun _ _ s h => whenIdle_of_busy (busy_eq_true_of_not_idle h),
    fun expect buf s h hlen => (whenIdle_of_idle (busy_eq_false_of_idle h)).trans (if_pos hlen),
    fun s h => ⟨_, exec_decode_of_idle h (by decide), rfl, rfl, rfl, rfl, rfl, rfl, rfl, rfl, rfl⟩⟩
  · rw [decoded, loadBuffer, receivedCrc_eq, syncFlag_eq_decide, lenFlag_eq_decide]
    rcases decodeAndValidate buf expect with (_ | _ | _ | _ | _) | p
    all_goals rfl
  · rw [decodeAndValidate_eq]
    split_ifs <;> exact ⟨nofun, nofun⟩

end Sys2Proof.Machine
end

section
/-! SUPPORT. The family of a transaction at level B: its steps one after the other, and the state of level A that they
end in (spec/44_host_transport.md R212 to R218, R227; Log 2, Log 4). -/

namespace Sys2Proof.Machine

/-! ### Steps one after the other -/

theorem stepN_trans {m : Nat} {s t : State} (h : stepN m s = .next t) (n : Nat) : stepN (m + n) s = stepN n t := by
  rw [stepN_add, h, andThen_of_next]

theorem stepN_cons {n : Nat} {s t : State} (h : step s = .next t) : stepN (n + 1) s = stepN n t := by
  rw [stepN_succ, h, andThen_of_next]

theorem stepN_snoc {n : Nat} {s t : State} (h : stepN n s = .next t) : stepN (n + 1) s = step t := by
  rw [stepN_trans h, stepN_succ]
  cases step t <;> rfl

section Steps
variable {s t : State} {x : Txn} (hreset : s.resetInput = false)
include hreset

/-- With a transaction in flight a step is the transaction's. -/
theorem step_of_txn (hx : s.txn = some x) : step s = txnAdvance x s := by
  simp [step, hreset, hx]

theorem step_of_sendStep (hx : s.txn = some x) (hst : x.stage = .sending) (ht : sendStep x s = .next t) :
    step s = .next t := by
  rw [step_of_txn hreset hx]
  exact txnAdvance_next.mpr (.inr (.inl ⟨hst, ht⟩))

theorem step_of_receiveStep (hx : s.txn = some x) (hst : x.stage = .awaitingResponse)
    (ht : receiveStep x s = .next t) : step s = .next t := by
  rw [step_of_txn hreset hx]
  exact txnAdvance_next.mpr (.inr (.inr (.inl ⟨hst, ht⟩)))

theorem step_of_rxEndOp (hx : s.txn = some x) (hst : x.stage = .validating) (ht : rxEndOp s = .next t) :
    step s = txnConclude x t := by
  simp only [step_of_txn hreset hx, txnAdvance, hst, ht, andThen_of_next]

theorem step_txnFail (k : ErrorKind) : step (txnFail x k s) = .next (txnEnd (txnFail x k s)) :=
  step_of_txn (s := txnFail x k s) hreset rfl

theorem step_txnComplete (r : CommandResult) : step (txnComplete x r s) = .next (txnEnd (txnComplete x r s)) :=
  step_of_txn (s := txnComplete x r s) hreset rfl

/-- The end of a decode leaves a transaction that the next step discards (R212, R218). -/
theorem step_of_txnConclude (ht : txnConclude x s = .next t) : step t = .next (txnEnd t) := by
  rcases txnConclude_next.mp ht with ⟨k, -, rfl⟩ | ⟨-, r, -, rfl⟩
  · exact step_txnFail hreset k
  · exact step_txnComplete hreset r

end Steps

/-! ### `Sending` at level B (R214, R227) -/

section Sending
variable {s : State} {x : Txn} (hreset : s.resetInput = false) (hx : s.txn = some x) (hst : x.stage = .sending)
  (hp : x.payload.length ≤ 65535)
include hreset hx hst hp

theorem step_txStart (h : Idle s) : step s = .next (sentPrefix s x.expectOp x.payload 0) :=
  step_of_sendStep hreset hx hst (sendStep_next.mpr (.inr ⟨h.1, busy_eq_false_of_idle h, hp, sentPrefix_zero.symm⟩))

/-- A step emits the frame's next byte; after the last one the read begins. -/
theorem step_sentPrefix {k : Nat} (hk : k < (truncate x.expectOp x.payload).length + 7) :
    step (sentPrefix s x.expectOp x.payload k) = .next
      (if k + 1 = (truncate x.expectOp x.payload).length + 7 then
        awaitResponse x (sentPrefix s x.expectOp x.payload (k + 1))
      else sentPrefix s x.expectOp x.payload (k + 1)) := by
  have hbyte := List.getElem?_eq_getElem (l := encodeFrame x.expectOp x.payload) (i := k)
    (by rwa [length_encodeFrame])
  refine step_of_sendStep (s := sentPrefix s x.expectOp x.payload k) hreset hx hst
    (sendStep_next.mpr (.inl ⟨decide_eq_true hk.ne, _, (txByte_sentPrefix hp hk).trans hbyte, ?_⟩))
  rw [sendByte_sentPrefix hp hk hbyte, sentPrefix_txBusy]
  simp only [decide_eq_true_eq, ite_not]

theorem stepN_sentPrefix (h : Idle s) {k : Nat} (hk : k < (truncate x.expectOp x.payload).length + 7) :
    stepN (k + 1) s = .next (sentPrefix s x.expectOp x.payload k) := by
  induction k with
  | zero => rw [stepN_cons (step_txStart hreset hx hst hp h), stepN_zero]
  | succ k ih =>
    rw [stepN_snoc (ih (by omega)), step_sentPrefix hreset hx hst hp (by omega), if_neg (by omega)]

/-- `TX_START` and one step for each byte of the frame leave what `ENCODE` leaves, and the read begins. -/
theorem stepN_sending (h : Idle s) :
    stepN ((truncate x.expectOp x.payload).length + 8) s =
      .next (awaitResponse x (sendWhole s x.expectOp x.payload)) := by
  rw [stepN_snoc (stepN_sentPrefix hreset hx hst hp h (k := (truncate x.expectOp x.payload).length + 6) (by omega)),
    step_sentPrefix hreset hx hst hp (by omega), if_pos rfl, sentPrefix_all]

end Sending

/-! ### What a Command Layer operation takes from a validated response (R220 to R224) -/

/-- Everything a Command Layer operation reads of a buffer of at least seven bytes has a value. -/
theorem Command.exists_onComplete (c : Command) (sent : List Byte) {s : State} {buf : List Byte}
    (h : HoldsBuffer s buf) (hn : 7 ≤ buf.length) (hplen : s.rxPlen.toNat ≤ buf.length - 7) :
    ∃ r, c.onComplete sent s = some r := by
  have hraw := readRxSlice_of_holds h (a := 0) (n := s.rxN.toNat) (by rw [h.2]; omega)
  have hdelivered := readRxSlice_of_holds h (a := 5) (n := s.rxPlen.toNat) (by omega)
  have hbody := readRxSlice_of_holds h (a := 5) (n := s.rxN.toNat - Config.minFrame)
    (by rw [h.2, Config.minFrame]; omega)
  have hfive : readRxbuf s 5 = some (byteAt buf 5) := (readRxbuf_of_holds h 5).trans (getElem?_eq_byteAt (by omega))
  have hsix : readRxbuf s 6 = some (byteAt buf 6) := (readRxbuf_of_holds h 6).trans (getElem?_eq_byteAt (by omega))
  cases c with
  | readVersion => exact ⟨_, by rw [onComplete, rawBuffer, hraw]⟩
  | setLed => exact ⟨_, rfl⟩
  | readGpio => exact ⟨_, by rw [onComplete, hfive, hsix]⟩
  | spiTransfer => exact ⟨_, by rw [onComplete, spiReturned, deliveredBytes, bodyBytes, hdelivered, hbody]⟩
  | readRegister => exact ⟨_, by rw [onComplete, hsix]⟩

/-- The payload a decode delivers fits the body (R167). -/
theorem decoded_rxPlen_le {s : State} {expect : Byte} {buf : List Byte} :
    (decoded s expect buf).rxPlen.toNat ≤ buf.length - 7 := by
  cases hresult : decodeAndValidate buf expect with
  | error k =>
    rw [decoded_rxPlen, hresult]
    exact Nat.zero_le _
  | ok p =>
    rw [toNat_decoded_rxPlen_of_ok hresult]
    exact Nat.min_le_right _ _

/-- A transaction concludes on every response of at least seven bytes (R218). -/
theorem exists_txnConclude_decoded (x : Txn) (s : State) (expect : Byte) {buf : List Byte} (hn : 7 ≤ buf.length)
    (hlen : buf.length ≤ 65542) : ∃ t, txnConclude x (decoded s expect buf) = .next t := by
  cases hcode : ErrorKind.ofCode (decoded s expect buf).err with
  | some k => exact ⟨_, txnConclude_next.mpr (.inl ⟨k, hcode, rfl⟩)⟩
  | none =>
    obtain ⟨r, hr⟩ := x.command.exists_onComplete x.sent (decoded_holds hlen) hn decoded_rxPlen_le
    exact ⟨_, txnConclude_next.mpr (.inr ⟨hcode, r, hr, rfl⟩)⟩

/-! ### `AwaitingResponse` and `Validating` at both levels (R215, R217, R218, R227) -/

theorem readTake_readTake (m n : Nat) (s : State) : readTake n (readTake m s) = readTake (m + n) s := by
  simp only [readTake, Stream.taken, List.drop_drop]

/-- Asking for more bytes than there are takes them all. -/
theorem readTake_of_length_le {s : State} {n : Nat} (h : s.stream.buffered.length ≤ n) :
    readTake n s = readTake s.stream.buffered.length s := by
  simp only [readTake, Stream.taken, List.drop_length, List.drop_of_length_le h]

section LevelA
variable {s : State} {x : Txn} (h : Idle s)
include h

/-- A read of `E` bytes at level A decodes them. -/
theorem txnReceive_of_le (hE : x.expectLen ≤ 65542) (hall : x.expectLen ≤ s.stream.buffered.length) :
    txnReceive x s = txnConclude x (decoded (txnValidate x (readClose (readTake x.expectLen s))) x.expectOp
      (s.stream.buffered.take x.expectLen)) := by
  have hlen : (s.stream.buffered.take x.expectLen).length ≤ 65542 := (List.length_take_le _ _).trans hE
  have hdecode := exec_decode_of_idle (s := txnValidate x (readClose (readTake x.expectLen s)))
    (expect := x.expectOp) h hlen
  rw [txnReceive, if_neg (Nat.not_lt.mpr hall)]
  exact congrArg (andThen · (txnConclude x)) hdecode

/-- A short read at level A aborts the reception and fails. -/
theorem txnReceive_of_lt (hshort : s.stream.buffered.length < x.expectLen) :
    txnReceive x s = .next (txnFail x .timeout
      { clearVerdict (readClose (readTake s.stream.buffered.length s)) with rxBusy := false }) := by
  rw [txnReceive, if_pos hshort, readTake_of_length_le hshort.le]
  exact txnTimeout_next.mpr ⟨h.1, rfl⟩

end LevelA

section LevelB
variable {s : State} {x : Txn} (hreset : s.resetInput = false) (hx : s.txn = some x)
  (hst : x.stage = .awaitingResponse) (hE : x.expectLen ≤ 65542) (h : Idle s)
include hreset hx hst hE h

/-- `RX_START`, and one `RX_BYTE` for each byte that has arrived. -/
theorem stepN_receivedSoFar {k : Nat} (hk : k ≤ s.stream.buffered.length) (hkE : k ≤ x.expectLen) :
    stepN (k + 1) s = .next (receivedSoFar (readTake k s) x.expectOp (s.stream.buffered.take k)) := by
  induction k with
  | zero =>
    exact stepN_cons (step_of_receiveStep hreset hx hst
      (receiveStep_next.mpr (.inl ⟨h.2, busy_eq_false_of_idle h, rfl⟩)))
  | succ k ih =>
    have hlen : (s.stream.buffered.take k).length = k := List.length_take_of_le (by omega)
    have hnext : s.stream.buffered.drop k = s.stream.buffered[k] :: s.stream.buffered.drop (k + 1) :=
      List.drop_eq_getElem_cons hk
    have htake : readTake 1 (receivedSoFar (readTake k s) x.expectOp (s.stream.buffered.take k)) =
        receivedSoFar (readTake (k + 1) s) x.expectOp (s.stream.buffered.take k) := by
      rw [← readTake_readTake]
      rfl
    rw [stepN_snoc (ih (by omega) (by omega))]
    refine step_of_receiveStep (s := receivedSoFar (readTake k s) x.expectOp (s.stream.buffered.take k)) hreset hx hst
      (receiveStep_next.mpr (.inr (.inr (.inl ⟨rfl, ?_, _, _, hnext, ?_⟩))))
    · rw [receivedSoFar_rxN, toNat_rxN_of_fits (by omega), hlen]
      omega
    · rw [htake, rxByteOp_receivedSoFar (by omega), List.take_concat_get' _ _ hk]

/-- A read of `E` bytes: `RX_START`, the bytes, the edge to `Validating` and `RX_END` end as `DECODE` does. -/
theorem stepN_receive_of_le (hall : x.expectLen ≤ s.stream.buffered.length) :
    stepN (x.expectLen + 3) s = txnReceive x s := by
  have hlen : (s.stream.buffered.take x.expectLen).length = x.expectLen := List.length_take_of_le hall
  have hvalidating : step (receivedSoFar (readTake x.expectLen s) x.expectOp (s.stream.buffered.take x.expectLen)) =
      .next (receivedSoFar (txnValidate x (readClose (readTake x.expectLen s))) x.expectOp
        (s.stream.buffered.take x.expectLen)) := by
    refine step_of_receiveStep (s := receivedSoFar _ _ _) hreset hx hst
      (receiveStep_next.mpr (.inr (.inl ⟨rfl, ?_, rfl⟩)))
    rw [receivedSoFar_rxN, toNat_rxN_of_fits (by omega), hlen]
  have hreceived := stepN_snoc (stepN_receivedSoFar hreset hx hst hE h hall (Nat.le_refl _))
  rw [stepN_snoc (hreceived.trans hvalidating), txnReceive_of_le h hE hall]
  exact step_of_rxEndOp (s := receivedSoFar (txnValidate x (readClose (readTake x.expectLen s))) x.expectOp
    (s.stream.buffered.take x.expectLen)) (x := { x with stage := .validating }) hreset rfl rfl
    (rxEndOp_receivedSoFar (by omega))

/-- A short read: `RX_START`, the bytes that have arrived, and `RX_ABORT`, which leaves `CRC` and `RX_EXPECT`. -/
theorem stepN_receive_of_lt (hshort : s.stream.buffered.length < x.expectLen) :
    stepN (s.stream.buffered.length + 2) s = .next (txnFail x .timeout
      { clearVerdict (readClose (readTake s.stream.buffered.length s)) with
        rxBusy := false
        crc := receivedCrc s.stream.buffered
        rxExpect := x.expectOp }) := by
  have hreceived := stepN_receivedSoFar hreset hx hst hE h (Nat.le_refl _) hshort.le
  rw [List.take_length] at hreceived
  rw [stepN_snoc hreceived]
  refine step_of_receiveStep (s := receivedSoFar _ _ _) hreset hx hst
    (receiveStep_next.mpr (.inr (.inr (.inr ⟨rfl, ?_, List.drop_length, txnTimeout_next.mpr ⟨h.1, rfl⟩⟩))))
  rwa [receivedSoFar_rxN, toNat_rxN_of_fits (by omega)]

/-- With `E` bytes read, level B ends in the state that level A's read ends in. -/
theorem exists_txnReceive_of_le (hmin : 7 ≤ x.expectLen) (hall : x.expectLen ≤ s.stream.buffered.length) :
    ∃ v, txnReceive x s = .next v ∧ stepN (x.expectLen + 4) s = .next (txnEnd v) := by
  have hlen : (s.stream.buffered.take x.expectLen).length = x.expectLen := List.length_take_of_le hall
  obtain ⟨v, hv⟩ := exists_txnConclude_decoded x (txnValidate x (readClose (readTake x.expectLen s))) x.expectOp
    (hlen.symm ▸ hmin) (hlen.symm ▸ hE)
  have hreceive : txnReceive x s = .next v := (txnReceive_of_le h hE hall).trans hv
  have hsteps : stepN (x.expectLen + 3) s = .next v := (stepN_receive_of_le hreset hx hst hE h hall).trans hreceive
  exact ⟨v, hreceive, (stepN_snoc hsteps).trans (step_of_txnConclude (by exact hreset) hv)⟩

/-- After a short read, level B differs from level A in the two registers that the reception wrote. -/
theorem exists_txnReceive_of_lt (hshort : s.stream.buffered.length < x.expectLen) :
    ∃ v, txnReceive x s = .next v ∧ stepN (s.stream.buffered.length + 3) s =
      .next { txnEnd v with crc := receivedCrc s.stream.buffered, rxExpect := x.expectOp } :=
  ⟨_, txnReceive_of_lt h hshort,
    (stepN_snoc (stepN_receive_of_lt hreset hx hst hE h hshort)).trans (step_txnFail (by exact hreset) .timeout)⟩

end LevelB

/-! ### A whole transaction, up to its read and after it (R227) -/

/-- The Session can begin a transaction, and the block takes its frame (R211, R257). -/
theorem txnBegin_of_rests {s : State} {payload : List Byte} (h : Idle s) (hrests : Rests s)
    (hp : payload.length ≤ 65535) (c : Command) (opcode : Byte) :
    txnBegin c opcode payload s = .next (setTxn s (some (newTxn c opcode payload))) :=
  txnBegin_next.mpr ⟨hrests, busy_eq_false_of_idle h, hp, rfl⟩

/-- A frame or pseudo frame is its transaction at level A (R190, R227). -/
theorem exec_of_frameOf {i : Instr} {c : Command} {opcode : Byte} {payload : List Byte}
    (hi : frameOf i = some (c, opcode, payload)) (s : State) : exec i s = transact c opcode payload s := by
  cases i <;> cases hi <;> rfl

section Whole
variable (s : State) (c : Command) (opcode : Byte) (payload : List Byte)

/-- The state at the end of `Draining` (R213). -/
def drainedFor : State := txnDrain (newTxn c opcode payload) (setTxn s (some (newTxn c opcode payload)))

/-- The transaction whose frame has been sent (R214, R216). -/
def readingTxn : Txn := sentTxn (newTxn c opcode payload) (sendWhole (drainedFor s c opcode payload) opcode payload)

/-- The state in which the read begins (R215). -/
def readingState : State :=
  awaitResponse (newTxn c opcode payload) (sendWhole (drainedFor s c opcode payload) opcode payload)

/-- The drain has discarded what was buffered, so the read meets what arrives in time. -/
theorem readingState_buffered :
    (readingState s c opcode payload).stream.buffered = s.stream.next.inTime := rfl

theorem readingTxn_expectLen (hp : payload.length ≤ 65535) :
    (readingTxn s c opcode payload).expectLen = c.expectLen (truncate opcode payload).length :=
  congrArg c.expectLen (toNat_txLen_of_framable hp)

end Whole

section Transaction
variable {s : State} {c : Command} {opcode : Byte} {payload : List Byte} (h : Idle s)
  (hp : payload.length ≤ 65535) (hreset : s.resetInput = false)
include h hp

theorem transact_eq_txnReceive (hrests : Rests s) :
    transact c opcode payload s =
      andThen (txnReceive (readingTxn s c opcode payload) (readingState s c opcode payload))
        fun v => .next (txnEnd v) := by
  have hsend := exec_encode_of_idle (s := drainedFor s c opcode payload) (opcode := opcode) h hp
  rw [transact, txnBegin_of_rests h hrests hp, andThen_of_next, txnSend]
  exact congrArg (fun r => andThen (andThen r _) _) hsend

include hreset

/-- At level B the read begins in the same state. -/
theorem stepN_readingState :
    stepN ((truncate opcode payload).length + 9) (setTxn s (some (newTxn c opcode payload))) =
      .next (readingState s c opcode payload) := by
  have hdrain : step (setTxn s (some (newTxn c opcode payload))) = .next (drainedFor s c opcode payload) :=
    step_of_txn (s := setTxn s (some (newTxn c opcode payload))) hreset rfl
  rw [stepN_cons hdrain]
  exact stepN_sending (s := drainedFor s c opcode payload) (x := { newTxn c opcode payload with stage := .sending })
    hreset rfl rfl hp h

variable (hrests : Rests s)
include hrests

/-- When `E` bytes arrive in time, the steps of level B end in the state level A answers. -/
theorem levelB_of_le (hall : c.expectLen (truncate opcode payload).length ≤ s.stream.next.inTime.length) :
    ∃ t, transact c opcode payload s = .next t ∧
      stepN ((truncate opcode payload).length + 9 + (c.expectLen (truncate opcode payload).length + 4))
        (setTxn s (some (newTxn c opcode payload))) = .next t := by
  obtain ⟨hmin, hmax⟩ := c.expectLen_bounds ((length_truncate_le opcode payload).trans hp)
  rw [← readingTxn_expectLen s c opcode payload hp] at hall hmin hmax ⊢
  rw [← readingState_buffered s c opcode payload] at hall
  obtain ⟨v, hv, hsteps⟩ := exists_txnReceive_of_le (s := readingState s c opcode payload)
    (x := readingTxn s c opcode payload) hreset rfl rfl hmax ⟨rfl, h.2⟩ hmin hall
  exact ⟨txnEnd v, by rw [transact_eq_txnReceive h hp hrests, hv, andThen_of_next],
    (stepN_trans (stepN_readingState h hp hreset) _).trans hsteps⟩

/-- When fewer arrive, they end in it but for the two registers that the reception wrote (R170, R171, R173). -/
theorem levelB_of_lt (hshort : s.stream.next.inTime.length < c.expectLen (truncate opcode payload).length) :
    ∃ t, transact c opcode payload s = .next t ∧
      stepN ((truncate opcode payload).length + 9 + (s.stream.next.inTime.length + 3))
        (setTxn s (some (newTxn c opcode payload))) =
          .next { t with crc := receivedCrc s.stream.next.inTime, rxExpect := opcode } := by
  obtain ⟨-, hmax⟩ := c.expectLen_bounds ((length_truncate_le opcode payload).trans hp)
  rw [← readingTxn_expectLen s c opcode payload hp] at hshort hmax
  rw [← readingState_buffered s c opcode payload] at hshort ⊢
  obtain ⟨v, hv, hsteps⟩ := exists_txnReceive_of_lt (s := readingState s c opcode payload)
    (x := readingTxn s c opcode payload) hreset rfl rfl hmax ⟨rfl, h.2⟩ hshort
  exact ⟨txnEnd v, by rw [transact_eq_txnReceive h hp hrests, hv, andThen_of_next],
    (stepN_trans (stepN_readingState h hp hreset) _).trans hsteps⟩

end Transaction

/-- Settles O42: both levels begin the read in one state; `E` bytes end as `DECODE` does, and after a short read the
abort leaves the two registers that the reception wrote. -/
theorem levelBTransactionFollowsLevelA : Obligations.LevelBTransactionFollowsLevelA := by
  intro i c opcode payload rest s hi h hrests hp hreset hacts
  have hnone : s.txn = none := by rw [State.txn, hrests, Session.idle]
  have hbegin : step s = .next (setTxn { s with actions := rest } (some (newTxn c opcode payload))) := by
    rw [step_of_action hreset hnone hacts]
    exact levelBOp_next.mpr ⟨_, _, _, hi, txnBegin_of_rests (s := { s with actions := rest }) h hrests hp c opcode⟩
  rw [exec_of_frameOf hi]
  rcases Nat.lt_or_ge s.stream.next.inTime.length (c.expectLen (truncate opcode payload).length) with hshort | hall
  · obtain ⟨t, ht, hsteps⟩ := levelB_of_lt (s := { s with actions := rest }) h hp hreset hrests hshort
    refine ⟨t, ht, fun hall => absurd hall (Nat.not_le.mpr hshort), fun _ => ?_⟩
    have hcount : (truncate opcode payload).length + s.stream.next.inTime.length + 13 =
        (truncate opcode payload).length + 9 + (s.stream.next.inTime.length + 3) + 1 := by omega
    rw [← receivedCrc_eq, hcount, stepN_cons hbegin]
    exact hsteps
  · obtain ⟨t, ht, hsteps⟩ := levelB_of_le (s := { s with actions := rest }) h hp hreset hrests hall
    refine ⟨t, ht, fun _ => ?_, fun hshort => absurd hall (Nat.not_le.mpr hshort)⟩
    have hcount : (truncate opcode payload).length + c.expectLen (truncate opcode payload).length + 14 =
        (truncate opcode payload).length + 9 + (c.expectLen (truncate opcode payload).length + 4) + 1 := by omega
    rw [hcount, stepN_cons hbegin]
    exact hsteps

end Sys2Proof.Machine
end

section
/-! SUPPORT. The family of the frames: how a whole transaction ends, for a short read, a response that fails and one
that validates, and what each Command Layer operation makes of its response (spec/43_frame_opcodes.md R190 to R195,
spec/44_host_transport.md R213 to R224; Log 4). -/

namespace Sys2Proof.Machine

/-! ### A transaction, from its read to its end (R215 to R218) -/

theorem ErrorKind.ofCode_code (k : ErrorKind) : ErrorKind.ofCode k.code = some k := by
  cases k <;> rfl

section Read
variable (s : State) (c : Command) (opcode : Byte) (payload : List Byte)

/-- The response: the first `E` bytes that arrive in time (R215, R216). -/
def response : List Byte := s.stream.next.inTime.take (c.expectLen (truncate opcode payload).length)

/-- The state that the decode of the response leaves, before the transaction concludes (R217, R218). -/
def validated : State :=
  decoded (txnValidate (readingTxn s c opcode payload) (readClose
    (readTake (c.expectLen (truncate opcode payload).length) (readingState s c opcode payload)))) opcode
    (response s c opcode payload)

/-- The state a transaction ends in when its response validates (R218). -/
def completed (r : CommandResult) : State :=
  txnEnd (txnComplete (readingTxn s c opcode payload) r (validated s c opcode payload))

/-- The state a transaction ends in when its response fails (R218). -/
def failedWith (k : ErrorKind) : State :=
  txnEnd (txnFail (readingTxn s c opcode payload) k (validated s c opcode payload))

/-- The state a transaction ends in when its read is short (R217). -/
def timedOut : State :=
  txnEnd (txnFail (readingTxn s c opcode payload) .timeout
    { clearVerdict (readClose (readTake s.stream.next.inTime.length (readingState s c opcode payload))) with
      rxBusy := false })

theorem validated_lenOk : (validated s c opcode payload).lenOk = lenFlag (response s c opcode payload) := rfl
theorem validated_rxDone : (validated s c opcode payload).rxDone = true := rfl

theorem validated_err_of_ok {p : List Byte} (hok : decodeAndValidate (response s c opcode payload) opcode = .ok p) :
    (validated s c opcode payload).err = 0#3 := by
  rw [validated, decoded_err, hok, verdictOf, verdictErr]

theorem validated_err_of_error {k : ErrorKind}
    (herror : decodeAndValidate (response s c opcode payload) opcode = .error k) :
    (validated s c opcode payload).err = k.code := by
  rw [validated, decoded_err, herror, verdictOf, verdictErr]

theorem completed_err_of_ok (r : CommandResult) {p : List Byte}
    (hok : decodeAndValidate (response s c opcode payload) opcode = .ok p) :
    (completed s c opcode payload r).err = 0#3 := validated_err_of_ok s c opcode payload hok
@[simp] theorem completed_rxDone (r : CommandResult) : (completed s c opcode payload r).rxDone = true := rfl
@[simp] theorem completed_lenOk (r : CommandResult) :
    (completed s c opcode payload r).lenOk = lenFlag (response s c opcode payload) := rfl
@[simp] theorem completed_trunc (r : CommandResult) :
    (completed s c opcode payload r).trunc = truncFlag opcode payload := rfl
@[simp] theorem completed_txout (r : CommandResult) :
    (completed s c opcode payload r).txout = s.txout ++ encodeFrame opcode payload := rfl
@[simp] theorem completed_results (r : CommandResult) :
    (completed s c opcode payload r).results = s.results ++ [r] := rfl

theorem failedWith_err_of_error {k : ErrorKind}
    (herror : decodeAndValidate (response s c opcode payload) opcode = .error k) :
    (failedWith s c opcode payload k).err = k.code := validated_err_of_error s c opcode payload herror
@[simp] theorem failedWith_txout (k : ErrorKind) :
    (failedWith s c opcode payload k).txout = s.txout ++ encodeFrame opcode payload := rfl
@[simp] theorem failedWith_results (k : ErrorKind) :
    (failedWith s c opcode payload k).results = s.results ++ [c.onError k] := rfl

@[simp] theorem timedOut_txout :
    (timedOut s c opcode payload).txout = s.txout ++ encodeFrame opcode payload := rfl
@[simp] theorem timedOut_results :
    (timedOut s c opcode payload).results = s.results ++ [c.onError .timeout] := rfl

/-- The frame a transaction notes as sent is the one its request encodes to (R214, R221). -/
theorem readingTxn_sent (hp : payload.length ≤ 65535) :
    (readingTxn s c opcode payload).sent = encodeFrame opcode payload :=
  lastEmitted_of_append rfl (by rw [length_encodeFrame, sendWhole_txLen, toNat_txLen_of_framable hp])

/-- Every response fits `RXBUF` (R27, R196). -/
theorem length_response_le (hp : payload.length ≤ 65535) : (response s c opcode payload).length ≤ 65542 :=
  (List.length_take_le _ _).trans (c.expectLen_bounds ((length_truncate_le opcode payload).trans hp)).2

theorem validated_holds (hp : payload.length ≤ 65535) :
    HoldsBuffer (validated s c opcode payload) (response s c opcode payload) :=
  decoded_holds (length_response_le s c opcode payload hp)

/-- Every response that a transaction decodes is at least a smallest frame (R196). -/
theorem seven_le_length_response (hp : payload.length ≤ 65535)
    (hall : c.expectLen (truncate opcode payload).length ≤ s.stream.next.inTime.length) :
    7 ≤ (response s c opcode payload).length := by
  rw [response, List.length_take_of_le hall]
  exact (c.expectLen_bounds ((length_truncate_le opcode payload).trans hp)).1

end Read

section Ends
variable {i : Instr} {s : State} {c : Command} {opcode : Byte} {payload : List Byte}
  (hi : frameOf i = some (c, opcode, payload)) (h : Idle s) (hrests : Rests s) (hp : payload.length ≤ 65535)
include hi h hrests hp

/-- A short read ends in a timeout (R217). -/
theorem exec_of_short (hshort : s.stream.next.inTime.length < c.expectLen (truncate opcode payload).length) :
    exec i s = .next (timedOut s c opcode payload) := by
  rw [← readingTxn_expectLen s c opcode payload hp, ← readingState_buffered s c opcode payload] at hshort
  rw [exec_of_frameOf hi, transact_eq_txnReceive h hp hrests,
    txnReceive_of_lt (s := readingState s c opcode payload) ⟨rfl, h.2⟩ hshort, andThen_of_next]
  rfl

variable (hall : c.expectLen (truncate opcode payload).length ≤ s.stream.next.inTime.length)
include hall

/-- A full read is decoded, and the verdict concludes the transaction (R217, R218). -/
theorem exec_of_full :
    exec i s = andThen (txnConclude (readingTxn s c opcode payload) (validated s c opcode payload)) fun v =>
      .next (txnEnd v) := by
  have hE := readingTxn_expectLen s c opcode payload hp
  obtain ⟨-, hmax⟩ := c.expectLen_bounds ((length_truncate_le opcode payload).trans hp)
  rw [exec_of_frameOf hi, transact_eq_txnReceive h hp hrests,
    txnReceive_of_le (s := readingState s c opcode payload) ⟨rfl, h.2⟩ (hE ▸ hmax) (hE ▸ hall), hE]
  rfl

/-- A response that fails gives the caller what its error kind does (R218, R252). -/
theorem exec_of_error {k : ErrorKind}
    (herror : decodeAndValidate (response s c opcode payload) opcode = .error k) :
    exec i s = .next (failedWith s c opcode payload k) := by
  have hcode : ErrorKind.ofCode (validated s c opcode payload).err = some k := by
    rw [validated_err_of_error s c opcode payload herror, k.ofCode_code]
  rw [exec_of_full hi h hrests hp hall, txnConclude_next.mpr (.inl ⟨k, hcode, rfl⟩), andThen_of_next, failedWith]

/-- A response that validates gives the caller what the operation takes from it (R218). -/
theorem exec_of_ok {p : List Byte} {r : CommandResult}
    (hok : decodeAndValidate (response s c opcode payload) opcode = .ok p)
    (hr : c.onComplete (encodeFrame opcode payload) (validated s c opcode payload) = some r) :
    exec i s = .next (completed s c opcode payload r) := by
  have hcode : ErrorKind.ofCode (validated s c opcode payload).err = none := by
    rw [validated_err_of_ok s c opcode payload hok]
    rfl
  rw [← readingTxn_sent s c opcode payload hp] at hr
  rw [exec_of_full hi h hrests hp hall, txnConclude_next.mpr (.inr ⟨hcode, r, hr, rfl⟩), andThen_of_next, completed]

end Ends

/-! ### What each Command Layer operation makes of its response (R220 to R224) -/

theorem byteAt_take {i n : Nat} (h : i < n) (buf : List Byte) : byteAt (buf.take n) i = byteAt buf i := by
  rw [byteAt, byteAt, List.getD_eq_getElem?_getD, List.getElem?_take_of_lt h, List.getD_eq_getElem?_getD]

section Commands
variable {s : State} {buf : List Byte} (h : HoldsBuffer s buf) (sent : List Byte)
include h

theorem readRxbuf_eq_byteAt {i : Nat} (hi : i < buf.length) : readRxbuf s i = some (byteAt buf i) :=
  (readRxbuf_of_holds h i).trans (getElem?_eq_byteAt hi)

theorem rawBuffer_of_holds : rawBuffer s = some buf := by
  rw [rawBuffer, readRxSlice_of_holds h (by rw [h.2, Nat.zero_add]), h.2, List.drop_zero, List.take_length]

theorem bodyBytes_of_holds (hn : 7 ≤ buf.length) :
    bodyBytes s = some ((buf.drop 5).take (buf.length - 7)) := by
  rw [bodyBytes, h.2, readRxSlice_of_holds h (by rw [Config.minFrame]; omega), Config.minFrame]

theorem onComplete_readVersion :
    Command.readVersion.onComplete sent s = some (.versionText (Config.versionText buf)) := by
  rw [Command.onComplete, rawBuffer_of_holds h]

theorem onComplete_readGpio (hn : 7 ≤ buf.length) :
    Command.readGpio.onComplete sent s = some (.gpioState (byteAt buf 5) (byteAt buf 6)) := by
  rw [Command.onComplete, readRxbuf_eq_byteAt h (by omega), readRxbuf_eq_byteAt h (by omega)]

theorem onComplete_readRegister (hn : 7 ≤ buf.length) :
    Command.readRegister.onComplete sent s = some (.registerValue (byteAt buf 6)) := by
  rw [Command.onComplete, readRxbuf_eq_byteAt h (by omega)]

/-- With a validated response `set_led` compares the raw bytes with the frame sent (R221). -/
theorem onComplete_setLed (hdone : s.rxDone = true) (herr : s.err = 0#3) :
    Command.setLed.onComplete sent s = some (.ledEcho (decide (buf = sent))) := by
  rw [Command.onComplete, rawBuffer_of_holds h, hdone, herr]
  simp [beq_eq_decide]

end Commands

/-- What `spi_transfer` takes from a response that validates (R192, R223, 90_conflicts.md C10). -/
theorem spiReturned_validated (s : State) (c : Command) {opcode : Byte} {payload p : List Byte}
    (hp : payload.length ≤ 65535) (hok : decodeAndValidate (response s c opcode payload) opcode = .ok p) :
    spiReturned (validated s c opcode payload) =
      some (if lenFlag (response s c opcode payload) then p
        else if Config.spiReturnsBody then
          ((response s c opcode payload).drop 5).take ((response s c opcode payload).length - 7)
        else p) := by
  have hholds := validated_holds s c opcode payload hp
  have hdelivered : deliveredBytes (validated s c opcode payload) = some p :=
    deliveredBytes_decoded (length_response_le s c opcode payload hp) hok
  rw [spiReturned, hdelivered, bodyBytes_of_holds hholds (deliveredPayload_of_ok hok).1, validated_lenOk]

theorem onComplete_spiTransfer (sent : List Byte) {s : State} {r : List Byte} (h : spiReturned s = some r) :
    Command.spiTransfer.onComplete sent s = some (.spiData r) := by
  rw [Command.onComplete, h]

/-- A payload that the length field counts rightly is the whole body (R34, R167). -/
theorem length_payload_of_lenFlag {expect : Byte} {buf p : List Byte}
    (hok : decodeAndValidate buf expect = .ok p) (hflag : lenFlag buf = true) : p.length = buf.length - 7 := by
  obtain ⟨hn, rfl⟩ := deliveredPayload_of_ok hok
  rw [lenFlag_eq_decide, decide_eq_true_eq] at hflag
  rw [length_deliveredPayload hn, hflag.2, Nat.min_self]

/-! ### The response of each request (R192, R193, R195) -/

theorem response_spiTransfer (s : State) (payload : List Byte) :
    response s .spiTransfer 0x01#8 payload = s.stream.next.inTime.take (min payload.length 1024 + 7) :=
  congrArg (fun n => s.stream.next.inTime.take (n + 7)) (length_truncate 0x01#8 payload)

theorem response_readRegister (s : State) (r : Byte) :
    response s .readRegister 0x01#8 [r, 0x00#8] = s.stream.next.inTime.take 9 := rfl

theorem response_setLed (s : State) (payload : List Byte) :
    response s .setLed 0x02#8 payload = s.stream.next.inTime.take (payload.length + 7) := by
  rw [response, truncate_of_ne (by decide), Command.expectLen]

/-- A response that fails to validate is not the frame of its opcode, which does validate (R177). -/
theorem ne_encodeFrame_of_error {buf : List Byte} {opcode : Byte} {payload : List Byte} {k : ErrorKind}
    (hp : payload.length ≤ 65535) (herror : decodeAndValidate buf opcode = .error k) :
    buf ≠ encodeFrame opcode payload := by
  rintro rfl
  rw [decodeAndValidate_encodeFrame _ _ hp] at herror
  cases herror

/-- Fewer bytes than an echo needs are no echo of the frame sent (R193, R221). -/
theorem response_setLed_ne_of_short {s : State} {opcode : Byte} {payload : List Byte}
    (hshort : s.stream.next.inTime.length < Command.setLed.expectLen (truncate opcode payload).length) :
    response s .setLed opcode payload ≠ encodeFrame opcode payload := by
  intro heq
  have hle : (encodeFrame opcode payload).length ≤ s.stream.next.inTime.length := heq ▸ List.length_take_le' _ _
  rw [length_encodeFrame] at hle
  exact Nat.not_le.mpr hshort hle

/-! ### The obligations -/

/-- Settles O45: the two bytes lie within the nine that the read takes. -/
theorem readGpioReturnsBytesFiveAndSix : Obligations.ReadGpioReturnsBytesFiveAndSix := by
  intro s p h hrests hall hok
  have hp : ([] : List Byte).length ≤ 65535 := Nat.zero_le _
  have hi : frameOf .readGpio = some (.readGpio, 0x03#8, []) := rfl
  have hr := onComplete_readGpio (validated_holds s .readGpio 0x03#8 [] hp) (encodeFrame 0x03#8 [])
    (seven_le_length_response s .readGpio 0x03#8 [] hp hall)
  have hframe : encodeFrame 0x03#8 [] = [0xAB#8, 0xCD#8, 0x03#8, 0x00#8, 0x00#8, 0x95#8, 0xCC#8] := by decide
  refine ⟨_, exec_of_ok hi h hrests hp hall hok hr, completed_rxDone .., completed_err_of_ok s _ _ _ _ hok, ?_, ?_⟩
  · rw [completed_results, response, byteAt_take (by decide), byteAt_take (by decide)]
  · rw [completed_txout, hframe]

/-- Settles O46: the verdict on the response decides which of the two ends the transaction takes. -/
theorem versionReturnsAString : Obligations.VersionReturnsAString := by
  intro s h hrests hall
  have hp : ([] : List Byte).length ≤ 65535 := Nat.zero_le _
  have hframe : encodeFrame 0x00#8 [] = [0xAB#8, 0xCD#8, 0x00#8, 0x00#8, 0x00#8, 0xCC#8, 0x9C#8] := by decide
  have hi : frameOf .version = some (.readVersion, 0x00#8, []) := rfl
  rw [← hframe]
  cases hverdict : decodeAndValidate (s.stream.next.inTime.take 24) 0x00#8 with
  | ok p =>
    have hr := onComplete_readVersion (validated_holds s .readVersion 0x00#8 [] hp) (encodeFrame 0x00#8 [])
    exact ⟨_, exec_of_ok hi h hrests hp hall hverdict hr, completed_txout ..,
      fun _ _ => ⟨completed_err_of_ok s _ _ _ _ hverdict, completed_results ..⟩, nofun, nofun⟩
  | error k =>
    refine ⟨_, exec_of_error hi h hrests hp hall hverdict, failedWith_txout .., nofun, fun hk => ?_, fun hk => ?_⟩
    all_goals
      cases hk
      exact ⟨failedWith_err_of_error s .readVersion 0x00#8 [] hverdict, failedWith_results ..⟩

/-- Settles O47: the response is as long as the request, so its body has the truncated payload's length. -/
theorem spiTransferReturnsThePayload : Obligations.SpiTransferReturnsThePayload := by
  intro payload data s h hrests hp hall hok
  have hi : frameOf (.spiTransfer payload) = some (.spiTransfer, 0x01#8, payload) := rfl
  have hresponse := response_spiTransfer s payload
  have hfull : (truncate 0x01#8 payload).length + 7 ≤ s.stream.next.inTime.length :=
    (congrArg (· + 7) (length_truncate 0x01#8 payload)).trans_le hall
  have hlen : (response s .spiTransfer 0x01#8 payload).length = min payload.length 1024 + 7 := by
    rw [hresponse, List.length_take_of_le hall]
  have hbody : ((response s .spiTransfer 0x01#8 payload).drop 5).take (min payload.length 1024) =
      (s.stream.next.inTime.drop 5).take (min payload.length 1024) := by
    rw [hresponse, List.drop_take, List.take_take, Nat.min_eq_left (by omega)]
  rw [← hresponse] at hok ⊢
  have hreturned := spiReturned_validated s .spiTransfer hp hok
  rw [hlen, Nat.add_sub_cancel, hbody] at hreturned
  refine ⟨_, _, exec_of_ok hi h hrests hp hfull hok (onComplete_spiTransfer _ hreturned), completed_rxDone ..,
    completed_err_of_ok s _ _ _ _ hok, completed_results .., ?_, completed_lenOk .., fun hflag => ?_, fun hflag => ?_⟩
  · simp [truncFlag_eq_decide]
  · rw [completed_lenOk] at hflag
    rw [if_pos hflag]
    exact ⟨rfl, (length_payload_of_lenFlag hok hflag).trans (by omega)⟩
  · rw [completed_lenOk] at hflag
    rw [if_neg (Bool.eq_false_iff.mp hflag)]
    split_ifs
    · exact .inr rfl
    · exact .inl rfl

/-- Settles O48: byte 6 lies within the nine that the read takes. -/
theorem readRegisterReturnsTheSecondByte : Obligations.ReadRegisterReturnsTheSecondByte := by
  intro r p s h hrests hall hok
  have hp : [r, 0x00#8].length ≤ 65535 := by simp
  have hr := onComplete_readRegister (validated_holds s .readRegister 0x01#8 [r, 0x00#8] hp)
    (encodeFrame 0x01#8 [r, 0x00#8]) (seven_le_length_response s .readRegister 0x01#8 [r, 0x00#8] hp hall)
  have hi : frameOf (.readRegister r) = some (.readRegister, 0x01#8, [r, 0x00#8]) := rfl
  refine ⟨_, exec_of_ok hi h hrests hp hall hok hr, completed_rxDone .., completed_err_of_ok s _ _ _ _ hok, ?_,
    completed_txout ..⟩
  rw [completed_results, response_readRegister, byteAt_take (by decide)]

/-- Settles O49: a short read is too short for the frame sent, a response that fails is no frame of this opcode, and a
response that validates is compared with it. -/
theorem setLedIsTheExactEcho : Obligations.SetLedIsTheExactEcho := by
  intro i payload s hled h hrests hp
  have hi : frameOf i = some (.setLed, 0x02#8, payload) := by
    rcases hled with rfl | ⟨rfl, rfl⟩ | ⟨rfl, rfl⟩
    all_goals rfl
  rw [← response_setLed]
  rcases Nat.lt_or_ge s.stream.next.inTime.length
    (Command.setLed.expectLen (truncate 0x02#8 payload).length) with hshort | hall
  · refine ⟨_, exec_of_short hi h hrests hp hshort, timedOut_txout .., ?_⟩
    rw [timedOut_results, Command.onError, decide_eq_false (response_setLed_ne_of_short hshort)]
  · cases hverdict : decodeAndValidate (response s .setLed 0x02#8 payload) 0x02#8 with
    | ok p =>
      have hr := onComplete_setLed (validated_holds s .setLed 0x02#8 payload hp) (encodeFrame 0x02#8 payload)
        (validated_rxDone ..) (validated_err_of_ok s .setLed 0x02#8 payload hverdict)
      exact ⟨_, exec_of_ok hi h hrests hp hall hverdict hr, completed_txout .., completed_results ..⟩
    | error k =>
      refine ⟨_, exec_of_error hi h hrests hp hall hverdict, failedWith_txout .., ?_⟩
      rw [failedWith_results, Command.onError, decide_eq_false (ne_encodeFrame_of_error hp hverdict)]

end Sys2Proof.Machine
end

section
/-! SUPPORT. The family of the host transport: the end of a transaction field by field, the life of the Session, and
that the transaction in flight, and every operation that R257 does not refuse, goes on (spec/44_host_transport.md R211
to R218, R227, spec/60_exceptions.md R257; Log 2, Log 4, Log 16). -/

namespace Sys2Proof.Machine

/-! ### The end of a transaction, field by field (R217, R218, R227) -/

theorem readRxSlice_congr {s t : State} (hn : t.rxN = s.rxN) (hbuf : t.rxbuf = s.rxbuf) (a n : Nat) :
    readRxSlice t a n = readRxSlice s a n := by
  induction n generalizing a with
  | zero => rfl
  | succ n ih => rw [readRxSlice, readRxSlice, readRxbuf_congr hn hbuf, ih]

/-- What a Command Layer operation returns depends on the block alone (R220 to R224). -/
theorem Command.onComplete_block (c : Command) (sent : List Byte) (s : State) :
    c.onComplete sent s.block = c.onComplete sent s := by
  have hslice : ∀ a n, readRxSlice s.block a n = readRxSlice s a n := readRxSlice_congr rfl rfl
  have hraw : rawBuffer s.block = rawBuffer s := hslice 0 s.rxN.toNat
  have hreturned : spiReturned s.block = spiReturned s := by
    rw [spiReturned, spiReturned, deliveredBytes, deliveredBytes, bodyBytes, bodyBytes, hslice, hslice]
    rfl
  cases c with
  | readVersion => rw [onComplete, onComplete, hraw]
  | setLed =>
    rw [onComplete, onComplete, hraw]
    rfl
  | readGpio | readRegister => rfl
  | spiTransfer => rw [onComplete, onComplete, hreturned]

section Ended
variable (s : State) (c : Command) (opcode : Byte) (payload : List Byte)

/-- The validated state differs from what `ENCODE` and `DECODE` leave only in the host's fields (R227). -/
theorem onComplete_validated (sent : List Byte) :
    c.onComplete sent (validated s c opcode payload) =
      c.onComplete sent (decoded (sendWhole s opcode payload) opcode (response s c opcode payload)) := by
  rw [← c.onComplete_block, ← c.onComplete_block sent (decoded ..)]
  rfl

/-- After a short read: what `ENCODE` leaves, the receive side cleared, and only the late bytes in the stream (R217). -/
theorem timedOut_eq (h : Idle s) (hrests : Rests s) :
    timedOut s c opcode payload =
      { clearVerdict (sendWhole s opcode payload) with
        txBusy := s.txBusy
        stream := { buffered := s.stream.next.late, late := [], arrivals := s.stream.arrivals.tail }
        results := s.results ++ [c.onError .timeout] } := by
  have hdrop : s.stream.next.inTime.drop s.stream.next.inTime.length ++ s.stream.next.late = s.stream.next.late := by
    rw [List.drop_length, List.nil_append]
  cases s
  obtain ⟨rfl, rfl⟩ := h
  obtain rfl := hrests
  rw [← hdrop]
  rfl

/-- After a full read: what `ENCODE` and `DECODE` leave, and the bytes beyond `E` and the late ones in the stream
(R218). -/
theorem completed_eq (hrests : Rests s) (r : CommandResult) :
    completed s c opcode payload r =
      { decoded (sendWhole s opcode payload) opcode (response s c opcode payload) with
        stream :=
          { buffered := s.stream.next.inTime.drop (c.expectLen (truncate opcode payload).length) ++ s.stream.next.late
            late := []
            arrivals := s.stream.arrivals.tail }
        results := s.results ++ [r] } := by
  cases s
  obtain rfl := hrests
  rfl

/-- A failure ends as a completion does, with the result that its kind gives (R218, R252). -/
theorem failedWith_eq (k : ErrorKind) :
    failedWith s c opcode payload k = completed s c opcode payload (c.onError k) := rfl

end Ended

/-- Settles O40: an idle block in an `Idle` Session is in that state again after the abort. -/
theorem transactionTimesOut : Obligations.TransactionTimesOut := by
  intro i c opcode payload s hi h hrests hp hshort
  rw [exec_of_short hi h hrests hp hshort, timedOut_eq s c opcode payload h hrests, ← truncFlag_eq_decide]
  rfl

/-- `ENCODE` leaves an idle block, so a `DECODE` may follow (R142, R168). -/
theorem run_encode_decode {s : State} {payload buf : List Byte} (h : Idle s) (hp : payload.length ≤ 65535)
    (opcode : Byte) (hlen : buf.length ≤ 65542) :
    run [.encode opcode payload, .decode opcode buf] s =
      .next (decoded (sendWhole s opcode payload) opcode buf) := by
  rw [run_cons, exec_encode_of_idle h hp, andThen_of_next, run_cons,
    exec_decode_of_idle (s := sendWhole s opcode payload) ⟨rfl, h.2⟩ hlen, andThen_of_next, run_nil]

/-- Settles O41: the verdict decides whether the result is that of its error kind or of the response. -/
theorem transactionEncodesThenDecodes : Obligations.TransactionEncodesThenDecodes := by
  intro i c opcode payload s hi h hrests hp hall
  have hlen := length_response_le s c opcode payload hp
  have hrun := run_encode_decode h hp opcode hlen
  refine ⟨decoded (sendWhole s opcode payload) opcode (response s c opcode payload), ?_⟩
  cases hverdict : decodeAndValidate (response s c opcode payload) opcode with
  | error k =>
    have herr : (decoded (sendWhole s opcode payload) opcode (response s c opcode payload)).err = k.code :=
      validated_err_of_error s c opcode payload hverdict
    refine ⟨c.onError k, hrun, fun k' hk' => ?_, fun hzero => ?_, ?_⟩
    · rw [herr, k.ofCode_code, Option.some.injEq] at hk'
      rw [hk']
    · rw [herr] at hzero
      exact nomatch hzero ▸ k.ofCode_code
    · rw [exec_of_error hi h hrests hp hall hverdict, failedWith_eq, completed_eq s c opcode payload hrests]
  | ok p =>
    have herr : (decoded (sendWhole s opcode payload) opcode (response s c opcode payload)).err = 0#3 :=
      validated_err_of_ok s c opcode payload hverdict
    obtain ⟨r, hr⟩ := c.exists_onComplete (encodeFrame opcode payload) (decoded_holds hlen)
      (seven_le_length_response s c opcode payload hp hall) decoded_rxPlen_le
    refine ⟨r, hrun, fun k hk => ?_, fun _ => hr, ?_⟩
    · rw [herr] at hk
      exact nomatch hk
    · rw [exec_of_ok hi h hrests hp hall hverdict ((onComplete_validated ..).trans hr),
        completed_eq s c opcode payload hrests]

/-! ### The life of the Session (R211; Log 16, Log 21) -/

section Session
variable {s : State} {i : Instr} {x : Command × Byte × List Byte}

theorem txn_eq_none_of_rests (hrests : Rests s) : s.txn = none := by
  rw [State.txn, hrests, Session.idle]

theorem txn_eq_none_of_closed (hclosed : s.session = none) : s.txn = none := by
  rw [State.txn, hclosed]

theorem exec_frame_of_closed (hi : frameOf i = some x) (hclosed : s.session = none) :
    exec i s = .refused .noSession := by
  obtain ⟨c, opcode, payload⟩ := x
  simp only [exec_of_frameOf hi, transact, txnBegin, hclosed, andThen_of_refused]

theorem exec_frame_of_inFlight {t : Txn} (hi : frameOf i = some x) (hx : s.txn = some t) :
    exec i s = .refused .sessionBusy := by
  obtain ⟨c, opcode, payload⟩ := x
  simp only [exec_of_frameOf hi, transact, txnBegin, txn_eq_some.mp hx, andThen_of_refused]

end Session

/-- Settles O43. -/
theorem sessionLife : Obligations.SessionLife := by
  refine ⟨fun s rest hreset hclosed hacts => ?_, fun s rest hreset hrests hacts => ?_,
    fun s rest hreset hrests hacts => ?_, fun s rest hreset hclosed hacts => ?_,
    fun _ _ _ => exec_frame_of_closed, fun _ _ _ _ => exec_frame_of_inFlight,
    fun s i c opcode payload rest hreset hrests h hi hp hacts => ?_⟩
  · rw [step_of_action hreset (txn_eq_none_of_closed hclosed) hacts]
    exact connectOp_next.mpr ⟨hclosed, rfl⟩
  · rw [step_of_action hreset (txn_eq_none_of_rests hrests) hacts, runAction, connectOp, hrests]
  · rw [step_of_action hreset (txn_eq_none_of_rests hrests) hacts]
    exact closeOp_next.mpr ⟨⟨_, hrests⟩, rfl⟩
  · rw [step_of_action hreset (txn_eq_none_of_closed hclosed) hacts, runAction, closeOp, hclosed]
  · rw [step_of_action hreset (txn_eq_none_of_rests hrests) hacts]
    exact levelBOp_next.mpr
      ⟨_, _, _, hi, txnBegin_of_rests (s := { s with actions := rest }) h hrests hp c opcode⟩

/-! ### What every operation needs has a value (R282; Log 13) -/

section Progress
variable {s : State}

theorem BlockInv.exists_txByte (h : BlockInv s) (hb : s.txBusy = true) : ∃ b, txByte s = some b := by
  refine ⟨selectedByte s (byteAt s.txbuf.bytes (s.txIdx.toNat - 5)),
    txByte_eq_selectedByte (h.sendingInside hb) fun hlo hhi => ?_⟩
  rw [h.readTxbuf_eq]
  exact getElem?_eq_byteAt (by rw [h.txbuf_length]; omega)

theorem BlockInv.exists_crcTwoBack (h : BlockInv s) (hb : s.rxBusy = true) : ∃ c, crcTwoBack s = some c :=
  ⟨_, crcTwoBack_of_holds h.holdsBuffer (h.receivingCrc hb) 0x00#8⟩

theorem BlockInv.stepOp_completes_iff (h : BlockInv s) : (∃ t, Machine.stepOp s = .next t) ↔ s.txBusy = true := by
  constructor
  · rintro ⟨t, ht⟩
    exact (stepOp_next.mp ht).1
  · intro hb
    obtain ⟨b, hbyte⟩ := h.exists_txByte hb
    exact ⟨_, stepOp_next.mpr ⟨hb, b, hbyte, rfl⟩⟩

theorem BlockInv.rxByteOp_completes_iff (h : BlockInv s) (b : Byte) :
    (∃ t, Machine.rxByteOp b s = .next t) ↔ s.rxBusy = true ∧ s.rxN.toNat < Config.rxMax := by
  constructor
  · rintro ⟨t, ht⟩
    obtain ⟨hb, hn, -⟩ := rxByteOp_next.mp ht
    exact ⟨hb, hn⟩
  · rintro ⟨hb, hn⟩
    obtain ⟨c, hc⟩ := h.exists_crcTwoBack hb
    exact ⟨_, rxByteOp_next.mpr ⟨hb, hn, c, hc, rfl⟩⟩

theorem BlockInv.rxEndOp_completes_iff (h : BlockInv s) : (∃ t, Machine.rxEndOp s = .next t) ↔ s.rxBusy = true := by
  constructor
  · rintro ⟨t, ht⟩
    exact (rxEndOp_next.mp ht).1
  · exact fun hb => ⟨_, h.rxEndOp_eq hb⟩

end Progress

/-! ### Every operation that is not refused completes (R211, R257; Log 16) -/

section Completes
variable {s : State}

theorem whenIdle_completes_iff (t : State) : (∃ u, whenIdle s (.next t) = .next u) ↔ Idle s := by
  simp only [whenIdle_next, State.busy_eq_false, Host.Outcome.next.injEq, exists_and_left, exists_eq', and_true]

theorem whenFramable_completes_iff (payload : List Byte) (t : State) :
    (∃ u, whenFramable s payload t = .next u) ↔ Idle s ∧ payloadInRange payload := by
  simp only [whenFramable_next, State.busy_eq_false, exists_and_left, exists_eq', and_true]
  rfl

theorem decodeOp_completes_iff (expect : Byte) (buf : List Byte) :
    (∃ u, decodeOp expect buf s = .next u) ↔ Idle s ∧ bufferInRange buf := by
  simp only [decodeOp_next, State.busy_eq_false, exists_and_left, exists_eq', and_true]
  rfl

theorem abortOp_completes_iff : (∃ u, abortOp s = .next u) ↔ s.txBusy = false := by
  simp only [abortOp_next, exists_and_left, exists_eq', and_true]

/-- In an idle block and an `Idle` Session a frame completes, on a short read as on a full one (R211, R217). -/
theorem exec_frame_completes_iff {i : Instr} {c : Command} {opcode : Byte} {payload : List Byte}
    (hi : frameOf i = some (c, opcode, payload)) :
    (∃ t, exec i s = .next t) ↔ Idle s ∧ Rests s ∧ payloadInRange payload := by
  constructor
  · rintro ⟨t, ht⟩
    rw [exec_of_frameOf hi] at ht
    obtain ⟨u, hbegin, -⟩ := transact_next.mp ht
    obtain ⟨hrests, hidle, hp, -⟩ := txnBegin_next.mp hbegin
    exact ⟨(State.busy_eq_false s).mp hidle, hrests, hp⟩
  · rintro ⟨h, hrests, hp⟩
    rcases Nat.lt_or_ge s.stream.next.inTime.length (c.expectLen (truncate opcode payload).length) with hshort | hall
    · exact ⟨_, transactionTimesOut i c opcode payload s hi h hrests hp hshort⟩
    · obtain ⟨u, r, -, -, -, hexec⟩ := transactionEncodesThenDecodes i c opcode payload s hi h hrests hp hall
      exact ⟨_, hexec⟩

/-- A frame whose payload is within range by its form needs only the idle block and Session. -/
theorem exec_frame_completes_iff_of_inRange {i : Instr} {c : Command} {opcode : Byte} {payload : List Byte}
    (hi : frameOf i = some (c, opcode, payload)) (hp : payloadInRange payload) :
    (∃ t, exec i s = .next t) ↔ Idle s ∧ Rests s := by
  rw [exec_frame_completes_iff hi, and_iff_left hp]

end Completes

/-- Settles O58: each operation by its own list of refusals; `noValue` is ruled out by the invariant. -/
theorem refusedExactlyAsListed : Obligations.RefusedExactlyAsListed := by
  intro s i h
  cases i with
  | version | readGpio | readRegister r | ledOn | ledOff => exact exec_frame_completes_iff_of_inRange rfl (by simp)
  | spiTransfer payload | led payload => exact exec_frame_completes_iff rfl
  | crcSeed v | crcUpdate b | crcCompute buf | rxStart expect | crcInit => exact whenIdle_completes_iff _
  | encode opcode payload | txStart opcode payload => exact whenFramable_completes_iff payload _
  | decode expect buf => exact decodeOp_completes_iff expect buf
  | rxAbort => exact abortOp_completes_iff
  | txStep => exact h.stepOp_completes_iff
  | rxByte b => exact h.rxByteOp_completes_iff b
  | rxEnd => exact h.rxEndOp_completes_iff

/-! ### The transaction in flight goes on (R212, R217) -/

section InFlight
variable {s u : State} {x : Txn}

theorem Inv.exists_sendStep (h : Inv s) (hx : s.txn = some x) (hst : x.stage = .sending) :
    ∃ u, Machine.sendStep x s = .next u := by
  obtain ⟨hrx, hp⟩ := (txnInv_sending hst).mp (h.inFlight x hx)
  cases hb : s.txBusy with
  | true =>
    obtain ⟨b, hbyte⟩ := h.toBlockInv.exists_txByte hb
    exact ⟨_, sendStep_next.mpr (.inl ⟨hb, b, hbyte, rfl⟩)⟩
  | false => exact ⟨_, sendStep_next.mpr (.inr ⟨hb, busy_eq_false_of_idle ⟨hb, hrx⟩, hp, rfl⟩)⟩

theorem Inv.exists_receiveStep (h : Inv s) (hx : s.txn = some x) (hst : x.stage = .awaitingResponse) :
    ∃ u, Machine.receiveStep x s = .next u := by
  obtain ⟨htx, -, hmax, -⟩ := (txnInv_awaitingResponse hst).mp (h.inFlight x hx)
  cases hb : s.rxBusy with
  | false => exact ⟨_, receiveStep_next.mpr (.inl ⟨hb, busy_eq_false_of_idle ⟨htx, hb⟩, rfl⟩)⟩
  | true =>
    rcases Nat.lt_or_ge s.rxN.toNat x.expectLen with hmore | hall
    · cases hbuf : s.stream.buffered with
      | nil =>
        exact ⟨_, receiveStep_next.mpr (.inr (.inr (.inr ⟨hb, hmore, hbuf, txnTimeout_next.mpr ⟨htx, rfl⟩⟩)))⟩
      | cons b rest =>
        have hread : BlockInv (readTake 1 s) := h.of_block_eq rfl
        obtain ⟨u, hu⟩ := (hread.rxByteOp_completes_iff b).mpr ⟨hb, hmore.trans_le hmax⟩
        exact ⟨u, receiveStep_next.mpr (.inr (.inr (.inl ⟨hb, hmore, b, rest, hbuf, hu⟩)))⟩
    · exact ⟨_, receiveStep_next.mpr (.inr (.inl ⟨hb, hall, rfl⟩))⟩

/-- The decode at the end of a read has its `E` bytes, so what the operation takes from them has a value (R218). -/
theorem Inv.exists_validateStep (h : Inv s) (hx : s.txn = some x) (hst : x.stage = .validating) :
    ∃ v, rxEndOp s = .next v ∧ ∃ u, Machine.txnConclude x v = .next u := by
  obtain ⟨-, hb, hmin, hn, -⟩ := (txnInv_validating hst).mp (h.inFlight x hx)
  have hlen := h.rxbuf_length
  exact ⟨_, h.rxEndOp_eq hb, exists_txnConclude_decoded x s s.rxExpect (by omega) (hlen ▸ h.rxBounded)⟩

theorem Inv.exists_txnAdvance (h : Inv s) (hx : s.txn = some x) : ∃ u, Machine.txnAdvance x s = .next u := by
  cases hst : x.stage with
  | draining => exact ⟨_, txnAdvance_next.mpr (.inl ⟨hst, rfl⟩)⟩
  | sending =>
    obtain ⟨u, hu⟩ := h.exists_sendStep hx hst
    exact ⟨u, txnAdvance_next.mpr (.inr (.inl ⟨hst, hu⟩))⟩
  | awaitingResponse =>
    obtain ⟨u, hu⟩ := h.exists_receiveStep hx hst
    exact ⟨u, txnAdvance_next.mpr (.inr (.inr (.inl ⟨hst, hu⟩)))⟩
  | validating =>
    obtain ⟨v, hv, u, hu⟩ := h.exists_validateStep hx hst
    exact ⟨u, txnAdvance_next.mpr (.inr (.inr (.inr (.inl ⟨hst, v, hv, hu⟩))))⟩
  | complete => exact ⟨_, txnAdvance_next.mpr (.inr (.inr (.inr (.inr (.inl ⟨hst, rfl⟩)))))⟩
  | failed => exact ⟨_, txnAdvance_next.mpr (.inr (.inr (.inr (.inr (.inr ⟨hst, rfl⟩)))))⟩

/-! ### Along which edges (R212, R217) -/

theorem sendStep_txn (hx : s.txn = some x) (ht : sendStep x s = .next u) :
    u.txn = some x ∨ ∃ v, u.txn = some (sentTxn x v) := by
  rcases sendStep_next.mp ht with ⟨-, b, -, rfl⟩ | ⟨-, -, -, rfl⟩
  · split
    · exact .inl hx
    · exact .inr ⟨_, rfl⟩
  · exact .inl hx

theorem receiveStep_txn (hx : s.txn = some x) (ht : receiveStep x s = .next u) :
    u.txn = some x ∨ u.txn = some { x with stage := .validating } ∨ u.txn = some { x with stage := .failed } := by
  rcases receiveStep_next.mp ht with ⟨-, -, rfl⟩ | ⟨-, -, rfl⟩ | ⟨-, -, b, rest, -, hbyte⟩ | ⟨-, -, -, htimeout⟩
  · exact .inl hx
  · exact .inr (.inl rfl)
  · obtain ⟨-, -, c, -, rfl⟩ := rxByteOp_next.mp hbyte
    exact .inl hx
  · obtain ⟨-, rfl⟩ := txnTimeout_next.mp htimeout
    exact .inr (.inr rfl)

theorem txnConclude_txn (ht : txnConclude x s = .next u) :
    u.txn = some { x with stage := .complete } ∨ u.txn = some { x with stage := .failed } := by
  rcases txnConclude_next.mp ht with ⟨k, -, rfl⟩ | ⟨-, r, -, rfl⟩
  · exact .inr rfl
  · exact .inl rfl

/-- Where a step leads the transaction `x` in flight from the state `s`: along an edge to a transaction `y`, which keeps
what `x` expects on entering `Validating`, or to its end, which changes the Session alone. -/
def Follows (x : Txn) (s u : State) : Prop :=
  (∃ y, u.txn = some y ∧ edge x.stage (some y.stage) ∧
      (y.stage = .validating → y.expectLen = x.expectLen ∧ y.expectOp = x.expectOp)) ∨
    (edge x.stage none ∧ u = txnEnd s)

theorem txnAdvance_follows (hx : s.txn = some x) (ht : txnAdvance x s = .next u) : Follows x s u := by
  rcases txnAdvance_next.mp ht with
    ⟨hst, rfl⟩ | ⟨hst, hsend⟩ | ⟨hst, hreceive⟩ | ⟨hst, v, -, hconclude⟩ | ⟨hst, rfl⟩ | ⟨hst, rfl⟩
  all_goals rw [Follows, hst]
  case inl => exact .inl ⟨_, rfl, rfl, nofun⟩
  case inr.inl =>
    rcases sendStep_txn hx hsend with hu | ⟨v, hu⟩
    · exact .inl ⟨x, hu, .inl (congrArg some hst), fun _ => ⟨rfl, rfl⟩⟩
    · exact .inl ⟨_, hu, .inr rfl, nofun⟩
  case inr.inr.inl =>
    rcases receiveStep_txn hx hreceive with hu | hu | hu
    · exact .inl ⟨x, hu, .inl (congrArg some hst), fun _ => ⟨rfl, rfl⟩⟩
    · exact .inl ⟨_, hu, .inr (.inl rfl), fun _ => ⟨rfl, rfl⟩⟩
    · exact .inl ⟨_, hu, .inr (.inr rfl), nofun⟩
  case inr.inr.inr.inl =>
    rcases txnConclude_txn hconclude with hu | hu
    · exact .inl ⟨_, hu, .inl rfl, nofun⟩
    · exact .inl ⟨_, hu, .inr rfl, nofun⟩
  case inr.inr.inr.inr.inl => exact .inr ⟨rfl, rfl⟩
  case inr.inr.inr.inr.inr => exact .inr ⟨rfl, rfl⟩

end InFlight

/-- Settles O44: the step follows an edge, and the invariant it keeps says what the block is at the edge's end. -/
theorem transactionEdges : Obligations.TransactionEdges := by
  intro s x h hreset hx
  obtain ⟨u, hu⟩ := h.exists_txnAdvance hx
  have hinv := h.txnAdvance hx hu
  refine ⟨u, (step_of_txn hreset hx).trans hu, ?_⟩
  rcases txnAdvance_follows hx hu with ⟨y, hy, hedge, hexpect⟩ | ⟨hedge, rfl⟩
  · have hblock := hinv.inFlight y hy
    rw [hy, Option.map_some]
    simp only [Option.some.injEq]
    refine ⟨hedge, fun hst => ?_, fun hst => ?_, fun hst => ?_, nofun⟩
    · obtain ⟨-, -, -, hn, hop⟩ := (txnInv_validating hst).mp hblock
      obtain ⟨hlen, hexpectOp⟩ := hexpect hst
      exact ⟨hn.trans hlen, hop.trans hexpectOp⟩
    · obtain ⟨hidle, hdone, herr⟩ := (txnInv_complete hst).mp hblock
      exact ⟨busy_eq_false_of_idle hidle, hdone, herr⟩
    · obtain ⟨hidle, herr⟩ := (txnInv_failed hst).mp hblock
      exact ⟨busy_eq_false_of_idle hidle, herr⟩
  · exact ⟨hedge, nofun, nofun, nofun, fun _ => rfl⟩

end Sys2Proof.Machine
end

section
/-! SUPPORT. The family of the exceptions: the codes of the error kinds, what the end of a decode reports and what it
leaves as it was, and what each Command Layer operation makes of an error (spec/60_exceptions.md R246 to R252). -/

namespace Sys2Proof.Machine

/-! ### The codes (R246) -/

theorem errCode_cases_of_le_three :
    ∀ {c : ErrCode}, c.toNat ≤ 3 → c = 0#3 ∨ c = 1#3 ∨ c = 2#3 ∨ c = 3#3 := by decide

/-- Settles O33: a kind's code names it, and a decode records a code of at most 3. -/
theorem errorKindCodes : Obligations.ErrorKindCodes :=
  ⟨rfl, rfl, rfl, rfl, rfl, ErrorKind.ofCode_code, rfl, rfl, rfl,
    fun buf expect => errCode_cases_of_le_three (verdictErr_decode_le buf expect)⟩

/-! ### What the end of a decode reports (R248, R249) -/

/-- A verdict that names an error delivers no payload (R248). -/
theorem verdictLen_of_verdictErr_ne_zero {v : Except ErrorKind Nat} (h : verdictErr v ≠ 0#3) :
    verdictLen v = 0#16 := by
  cases v with
  | error k => rfl
  | ok n => exact absurd rfl h

theorem readTxbuf_congr {s t : State} (hlen : t.txLen = s.txLen) (hbuf : t.txbuf = s.txbuf) (a : Nat) :
    readTxbuf t a = readTxbuf s a := by
  rw [readTxbuf, readTxbuf, hlen, hbuf]

/-- On a short buffer or a long one, `RX_END` reports a verdict and does nothing else (R172). -/
theorem rxEndOp_next_reports {s t : State} (ht : rxEndOp s = .next t) :
    ∃ syncOk lenOk verdict, reportVerdict s syncOk lenOk verdict = t := by
  obtain ⟨-, ⟨-, hreport⟩ | ⟨-, len, rxCrc, opcode, -, -, -, hreport⟩⟩ := rxEndOp_next.mp ht
  · exact ⟨_, _, _, hreport⟩
  · exact ⟨_, _, _, hreport⟩

/-- `RX_END` reports a verdict on the buffer received, `DECODE` on the one that it loads first (R168, R172). -/
theorem decode_next_reports {i : Instr} {s t : State} (hi : i = .rxEnd ∨ ∃ expect buf, i = .decode expect buf)
    (ht : exec i s = .next t) :
    ∃ u syncOk lenOk verdict, (u = s ∨ ∃ expect buf, u = loadBuffer s expect buf) ∧
      reportVerdict u syncOk lenOk verdict = t := by
  rcases hi with rfl | ⟨expect, buf, rfl⟩
  · obtain ⟨syncOk, lenOk, verdict, hreport⟩ := rxEndOp_next_reports ht
    exact ⟨s, syncOk, lenOk, verdict, .inl rfl, hreport⟩
  · obtain ⟨-, -, hreport⟩ := decodeOp_next.mp ht
    exact ⟨_, _, _, _, .inr ⟨expect, buf, rfl⟩, hreport⟩

/-- Settles O32: reporting a verdict leaves the received buffer, and loading a buffer first leaves the sender, the
stream and the Session. -/
theorem reportKeepsEverythingElse : Obligations.ReportKeepsEverythingElse := by
  refine ⟨fun s t ht _ => ?_, fun i s t hi ht herr => ?_⟩
  · obtain ⟨syncOk, lenOk, verdict, rfl⟩ := rxEndOp_next_reports ht
    exact ⟨readRxbuf_congr rfl rfl, rfl, rfl, rfl, rfl, rfl, rfl⟩
  · obtain ⟨u, syncOk, lenOk, verdict, hu, rfl⟩ := decode_next_reports hi ht
    refine ⟨verdictLen_of_verdictErr_ne_zero herr, rfl, rfl, ?_⟩
    rcases hu with rfl | ⟨expect, buf, rfl⟩
    all_goals exact ⟨rfl, rfl, rfl, rfl, rfl, readTxbuf_congr rfl rfl, rfl, rfl, rfl, rfl⟩

/-! ### What an error gives the caller (R252) -/

/-- Settles O50: R252's table, row by row, holds of every kind, so also of the four that can occur. -/
theorem errorPropagation : Obligations.ErrorPropagation := fun _ _ => ⟨rfl, rfl, rfl, rfl, rfl⟩

end Sys2Proof.Machine
end

section
/-! SUPPORT. The family of reset: the reset values, and the reset input asserted in any state and at each point of a
transaction at level B (spec/70_reset_and_hazards.md R280 to R284; Log 2, Log 3, Log 5). -/

namespace Sys2Proof.Machine

/-! ### The reset values (R281, R282) -/

theorem reset_idle : Idle State.reset := ⟨rfl, rfl⟩

/-- No byte of `RXBUF` has a value at reset (R282). -/
theorem reset_holdsBuffer : HoldsBuffer State.reset [] := ⟨rfl, rfl⟩

/-- Settles O38: the reset state holds the empty buffers, and `CRC` is the seed that `crc_compute` folds from. -/
theorem resetValues : Obligations.ResetValues := by
  refine ⟨rfl, statusPacking.2.2, rfl, rfl, rfl, rfl, rfl, busy_eq_false_of_idle reset_idle, rfl, rfl, rfl, rfl, rfl,
    rfl, rfl, rfl, fun i => ⟨?_, ?_⟩, ?_, ?_, ?_, ?_, run_crcUpdates_of_idle reset_idle Config.seedInit⟩
  · exact (readTxbuf_of_holds (p := []) rfl rfl i).trans List.getElem?_nil
  · exact (readRxbuf_of_holds reset_holdsBuffer i).trans List.getElem?_nil
  · exact (rxSyncView_of_holds reset_holdsBuffer).trans (if_neg (by decide))
  · exact (rxOpcodeView_of_holds reset_holdsBuffer).trans (if_neg (by decide))
  · exact (rxLenView_of_holds reset_holdsBuffer).trans (if_neg (by decide))
  · exact (rxCrcView_of_holds reset_holdsBuffer).trans (if_neg (by decide))

/-! ### The reset input (R280) -/

theorem step_of_resetInput {s : State} (h : s.resetInput = true) : step s = .next (assertReset s) := if_pos h

/-- The input itself is no part of what the reset keeps. -/
theorem step_assertingReset (s : State) : step { s with resetInput := true } = .next (assertReset s) :=
  step_of_resetInput rfl

/-- A transaction in flight ends, and its Session is `Idle` (Log 3). -/
theorem assertReset_rests {s : State} {x : Session} (h : s.session = some x) : Rests (assertReset s) := by
  rw [Rests, assertReset_session, h, Option.map_some]

/-! ### The points of a level B transaction at which the reset input may come (R284) -/

/-- The transaction's first step is its drain (R213). -/
theorem step_newTxn {s : State} (hreset : s.resetInput = false) (c : Command) (opcode : Byte) (payload : List Byte) :
    step (setTxn s (some (newTxn c opcode payload))) = .next (drainedFor s c opcode payload) :=
  step_of_txn (s := setTxn s (some (newTxn c opcode payload))) hreset rfl

section Points
variable {s : State} {i : Instr} {c : Command} {opcode : Byte} {payload : List Byte} {rest : List HostAction}
  (hi : frameOf i = some (c, opcode, payload)) (h : Idle s) (hrests : Rests s) (hp : payload.length ≤ 65535)
  (hreset : s.resetInput = false) (hacts : s.actions = .levelB i :: rest)
include hi h hrests hp hreset hacts

/-- The host's action begins the transaction in `Draining` (R211). -/
theorem step_levelB :
    step s = .next (setTxn { s with actions := rest } (some (newTxn c opcode payload))) := by
  rw [step_of_action hreset (txn_eq_none_of_rests hrests) hacts]
  exact levelBOp_next.mpr ⟨_, _, _, hi, txnBegin_of_rests (s := { s with actions := rest }) h hrests hp c opcode⟩

/-- With `j` of the frame's bytes emitted, and more to come. -/
theorem stepN_levelB_sentPrefix {j : Nat} (hj : j < (truncate opcode payload).length + 7) :
    stepN (j + 3) s =
      .next (sentPrefix (drainedFor { s with actions := rest } c opcode payload) opcode payload j) := by
  rw [stepN_cons (step_levelB hi h hrests hp hreset hacts), stepN_cons (step_newTxn (by exact hreset) c opcode payload)]
  exact stepN_sentPrefix (s := drainedFor { s with actions := rest } c opcode payload)
    (x := { newTxn c opcode payload with stage := .sending }) hreset rfl rfl hp h hj

/-- With the whole frame sent, before `RX_START`. -/
theorem stepN_levelB_readingState :
    stepN ((truncate opcode payload).length + 10) s =
      .next (readingState { s with actions := rest } c opcode payload) := by
  rw [stepN_cons (step_levelB hi h hrests hp hreset hacts)]
  exact stepN_readingState h hp hreset

/-- With `k` bytes of the answer read. -/
theorem stepN_levelB_receivedSoFar {k : Nat} (hkE : k ≤ c.expectLen (truncate opcode payload).length)
    (hk : k ≤ s.stream.next.inTime.length) :
    stepN ((truncate opcode payload).length + k + 11) s =
      .next (receivedSoFar (readTake k (readingState { s with actions := rest } c opcode payload)) opcode
        (s.stream.next.inTime.take k)) := by
  obtain ⟨-, hmax⟩ := c.expectLen_bounds ((length_truncate_le opcode payload).trans hp)
  rw [← readingTxn_expectLen { s with actions := rest } c opcode payload hp] at hkE hmax
  have hcount : (truncate opcode payload).length + k + 11 = (truncate opcode payload).length + 10 + (k + 1) := by omega
  rw [hcount, stepN_trans (stepN_levelB_readingState hi h hrests hp hreset hacts)]
  exact stepN_receivedSoFar (s := readingState { s with actions := rest } c opcode payload)
    (x := readingTxn { s with actions := rest } c opcode payload) hreset rfl rfl hmax ⟨rfl, h.2⟩ hk hkE

end Points

/-- Settles O39: the transaction is followed to the point where the input comes; what a reset keeps of the state there
is what that state has emitted, and its stream with all that is unread in the buffer. -/
theorem resetInputResetsTheBlock : Obligations.ResetInputResetsTheBlock := by
  refine ⟨fun s => step_of_resetInput, fun i c opcode payload rest s hi h hrests hp hreset hacts =>
    ⟨fun j hj => ?sending, ?sent, fun k hkE hk => ?receiving⟩⟩
  case sending =>
    exact ⟨_, _, stepN_levelB_sentPrefix hi h hrests hp hreset hacts hj, decide_eq_true hj.ne, step_assertingReset _,
      rfl, rfl, rfl, assertReset_rests rfl, rfl⟩
  case sent =>
    exact ⟨_, _, stepN_levelB_readingState hi h hrests hp hreset hacts, ⟨rfl, h.2⟩, step_assertingReset _,
      rfl, rfl, assertReset_rests rfl, rfl⟩
  case receiving =>
    have hcount : (s.stream.next.inTime.take k).length = k := List.length_take_of_le hk
    have hfits : c.expectLen (truncate opcode payload).length ≤ 65542 :=
      (c.expectLen_bounds ((length_truncate_le opcode payload).trans hp)).2
    refine ⟨_, _, stepN_levelB_receivedSoFar hi h hrests hp hreset hacts hkE hk, rfl, ?_, step_assertingReset _,
      rfl, rfl, rfl, rfl, rfl, assertReset_rests rfl, rfl⟩
    rw [receivedSoFar_rxN, toNat_rxN_of_fits (by omega), hcount]

end Sys2Proof.Machine
end
